-- ==== Sys2Proof/Word.lean ====
section
/-! DEFINITION. The words the unit's serial lines carry: bytes, 16-bit and 32-bit fields. -/

namespace Sys2Proof

/-- One byte on a serial line (R42, R192). -/
abbrev Byte := BitVec 8

/-- A two-byte numeric field, sent high byte first (R42, R192). -/
abbrev Half := BitVec 16

/-- The two bytes of a field, high byte first (R42, R192). -/
def Half.bytes (w : Half) : List Byte := [w.extractLsb' 8 8, w.extractLsb' 0 8]

/-- The field two bytes spell, high byte first (R42, R192). -/
def Half.ofBytes (hi lo : Byte) : Half := hi ++ lo

end Sys2Proof
end

