-- ==== Sys2Proof/Config.lean ====
section
/-! DEFINITION. What the unit's build fixes: six berths, eight modules, two test units, two groups, the enumerated values of
the tables, the fixed intervals, and the settings record with its defaults (Table 10-1). -/

namespace Sys2Proof

/-- The six berths (0.6.2). -/
inductive Berth where
  | b1 | b2 | b3 | b4 | b5 | b6
deriving DecidableEq, Repr

/-- A berth's number, 1 to 6. -/
def Berth.number : Berth → Nat
  | .b1 => 1 | .b2 => 2 | .b3 => 3 | .b4 => 4 | .b5 => 5 | .b6 => 6

/-- The berths in berth number order. -/
def Berth.all : List Berth := [.b1, .b2, .b3, .b4, .b5, .b6]

/-- The berth of a number, none outside 1 to 6 (R197). -/
def Berth.ofNumber : Nat → Option Berth
  | 1 => some .b1 | 2 => some .b2 | 3 => some .b3 | 4 => some .b4 | 5 => some .b5 | 6 => some .b6
  | _ => none

/-- One value for each berth. -/
structure PerBerth (α : Type) where
  b1 : α
  b2 : α
  b3 : α
  b4 : α
  b5 : α
  b6 : α
deriving DecidableEq, Repr

/-- The value of one berth. -/
def PerBerth.get {α : Type} (v : PerBerth α) : Berth → α
  | .b1 => v.b1 | .b2 => v.b2 | .b3 => v.b3 | .b4 => v.b4 | .b5 => v.b5 | .b6 => v.b6

/-- The values with one berth's replaced. -/
def PerBerth.set {α : Type} (v : PerBerth α) (b : Berth) (x : α) : PerBerth α :=
  match b with
  | .b1 => { v with b1 := x }
  | .b2 => { v with b2 := x }
  | .b3 => { v with b3 := x }
  | .b4 => { v with b4 := x }
  | .b5 => { v with b5 := x }
  | .b6 => { v with b6 := x }

/-- The same value for every berth. -/
def PerBerth.const {α : Type} (x : α) : PerBerth α := ⟨x, x, x, x, x, x⟩

/-- One value for each berth, by a function of the berth. -/
def PerBerth.ofFn {α : Type} (f : Berth → α) : PerBerth α := ⟨f .b1, f .b2, f .b3, f .b4, f .b5, f .b6⟩

/-- The converter modules M1 to M8 (R119). -/
inductive Module where
  | m1 | m2 | m3 | m4 | m5 | m6 | m7 | m8
deriving DecidableEq, Repr

/-- A module's number, 1 to 8. -/
def Module.number : Module → Nat
  | .m1 => 1 | .m2 => 2 | .m3 => 3 | .m4 => 4 | .m5 => 5 | .m6 => 6 | .m7 => 7 | .m8 => 8

/-- The modules in module number order. -/
def Module.all : List Module := [.m1, .m2, .m3, .m4, .m5, .m6, .m7, .m8]

/-- The module of a number, none outside 1 to 8 (R197). -/
def Module.ofNumber : Nat → Option Module
  | 1 => some .m1 | 2 => some .m2 | 3 => some .m3 | 4 => some .m4
  | 5 => some .m5 | 6 => some .m6 | 7 => some .m7 | 8 => some .m8
  | _ => none

/-- One value for each module. -/
structure PerModule (α : Type) where
  m1 : α
  m2 : α
  m3 : α
  m4 : α
  m5 : α
  m6 : α
  m7 : α
  m8 : α
deriving DecidableEq, Repr

/-- The value of one module. -/
def PerModule.get {α : Type} (v : PerModule α) : Module → α
  | .m1 => v.m1 | .m2 => v.m2 | .m3 => v.m3 | .m4 => v.m4
  | .m5 => v.m5 | .m6 => v.m6 | .m7 => v.m7 | .m8 => v.m8

/-- The values with one module's replaced. -/
def PerModule.set {α : Type} (v : PerModule α) (m : Module) (x : α) : PerModule α :=
  match m with
  | .m1 => { v with m1 := x }
  | .m2 => { v with m2 := x }
  | .m3 => { v with m3 := x }
  | .m4 => { v with m4 := x }
  | .m5 => { v with m5 := x }
  | .m6 => { v with m6 := x }
  | .m7 => { v with m7 := x }
  | .m8 => { v with m8 := x }

/-- The same value for every module. -/
def PerModule.const {α : Type} (x : α) : PerModule α := ⟨x, x, x, x, x, x, x, x⟩

/-- One value for each module, by a function of the module. -/
def PerModule.ofFn {α : Type} (f : Module → α) : PerModule α :=
  ⟨f .m1, f .m2, f .m3, f .m4, f .m5, f .m6, f .m7, f .m8⟩

/-- Every module's value put through one function. -/
def PerModule.map {α β : Type} (f : α → β) (v : PerModule α) : PerModule β :=
  ⟨f v.m1, f v.m2, f v.m3, f v.m4, f v.m5, f v.m6, f v.m7, f v.m8⟩

/-- The test units IT-A and IT-B (R65). -/
inductive TestUnit where
  | a | b
deriving DecidableEq, Repr

/-- The groups of berths, one for each group trip bus (R168). -/
inductive Group where
  | a | b
deriving DecidableEq, Repr

/-- Voltage classes (Table 2-3). -/
inductive VClass where
  | hv11 | hv6 | lv690
deriving DecidableEq, Repr

/-- The nominal voltage Vn of a voltage class, in volts (R148). -/
def VClass.volts : VClass → Nat
  | .hv11 => 11000 | .hv6 => 6600 | .lv690 => 690

/-- Supply classes; also the two positions of a frequency selector (Table 0-4). -/
inductive SClass where
  | f50 | f60
deriving DecidableEq, Repr

/-- Transfer modes a ship offers or a berth allows (Table 2-3). -/
inductive Modes where
  | closed | opened | both
deriving DecidableEq, Repr

/-- The fault causes, in the order of Table 2-6. -/
inductive FaultCause where
  | noContact | classMismatch | supplyUnavailable | transferMode | testFail | testInconclusive | selector | earthSwitch
  | cableState | breakerClose | breakerOpen | backupTrip | syncFail | parallelOverrun | reversePower | overdraw | pilotOpen
  | tripOwn | tripGroup | estop | shedForced | linkLostTransfer
deriving DecidableEq, Repr

/-- What detects a plug at a berth (R4). -/
inductive Detection where
  | pilot | proximity | both
deriving DecidableEq, Repr

/-- Which trip inputs a berth takes (R168). -/
inductive TripSource where
  | own | group | either
deriving DecidableEq, Repr

/-- The per-berth settings of Table 10-1. -/
structure BerthSettings where
  outletRating : Nat
  vclass : VClass
  f60Allowed : Bool
  openAllowed : Bool
  detection : Detection
  tripSource : TripSource
  group : Group
deriving DecidableEq, Repr

/-- The settings record of Table 10-1, each setting in its own unit. -/
structure Settings where
  nativeLimit : Nat
  reserve : Nat
  converterInstalled : Bool
  modulesInstalled : Nat
  eff : Nat
  suspThreshold : Nat
  bankSettle : Nat
  bankIdleStop : Nat
  contactLimit : Nat
  readyLimit : Nat
  syncLimit : Nat
  parallelLimit : Nat
  returnParallelLimit : Nat
  takeBackLimit : Nat
  slipLimit : Nat
  angleLimit : Nat
  voltageLimit : Nat
  dwellN : Nat
  closingTime : Nat
  reverseLimit : Nat
  reverseTime : Nat
  overdrawMargin : Nat
  overdrawLimit : Nat
  earthLimit : Nat
  insulationMin : Nat
  berth : PerBerth BerthSettings
deriving DecidableEq, Repr

/-- The default of a berth's settings, its group apart (Table 10-1). -/
def BerthSettings.default (g : Group) : BerthSettings :=
  { outletRating := 2000, vclass := .hv11, f60Allowed := true, openAllowed := false, detection := .both,
    tripSource := .either, group := g }

/-- The default of every setting (Table 10-1). -/
def Settings.default : Settings :=
  { nativeLimit := 4000, reserve := 200, converterInstalled := true, modulesInstalled := 8, eff := 95, suspThreshold := 3,
    bankSettle := 20, bankIdleStop := 10, contactLimit := 30, readyLimit := 600, syncLimit := 120, parallelLimit := 60,
    returnParallelLimit := 90, takeBackLimit := 180, slipLimit := 100, angleLimit := 800, voltageLimit := 50, dwellN := 3,
    closingTime := 80, reverseLimit := 5, reverseTime := 2, overdrawMargin := 110, overdrawLimit := 60, earthLimit := 400,
    insulationMin := 10,
    berth := ⟨.default .a, .default .a, .default .a, .default .b, .default .b, .default .b⟩ }

namespace Config

/-! Fixed intervals, in milliseconds. -/

/-- Quiet timer (R10). -/
def quietMs : Nat := 2000
/-- Retest delay (R13). -/
def retestMs : Nat := 60000
/-- Selector limit (R15). -/
def selectorMs : Nat := 3000
/-- Earthing switch limit, of a Berth Unit's command and of a test unit's (R7, R16, R70, R74). -/
def switchMs : Nat := 2000
/-- Discharge interval of the earthing procedure (R7). -/
def dischargeMs : Nat := 5000
/-- Cable limit (R18, R19). -/
def cableMs : Nat := 5000
/-- Answer limit (R25). -/
def answerMs : Nat := 60000
/-- Freshness timer (R140). -/
def freshnessMs : Nat := 500
/-- Loss timer (R47). -/
def lossMs : Nat := 5000
/-- Shore beacon timer (R51). -/
def beaconMs : Nat := 1000
/-- Call repeat timer (R52). -/
def callRepeatMs : Nat := 2000
/-- Breaker supervision, close and open (R173). -/
def supervisionMs : Nat := 500
/-- Earthing switch disagreement timer (R177). -/
def switchDisagreeMs : Nat := 2000
/-- Selector disagreement timer (R177). -/
def selectorDisagreeMs : Nat := 3000
/-- Earth interval of a test (R68). -/
def earthMs : Nat := 2000
/-- Measurement interval of an insulation attempt (R71). -/
def measureMs : Nat := 10000
/-- Discharge interval of a test's closing step (R74). -/
def testDischargeMs : Nat := 1000
/-- Restart limit of a module (R120). -/
def restartMs : Nat := 30000
/-- Proof limit of a module (R126). -/
def proofMs : Nat := 40000
/-- Write limit of the Settings Store (R204). -/
def writeMs : Nat := 3000
/-- Start window (R185). -/
def windowMs : Nat := 2000
/-- Greatest value of the grant sequence counter and of the join counter (Table 4-1). -/
def counterMax : Nat := 4294967295
/-- Converter capacity of one counted module, in kVA (R123). -/
def moduleKva : Nat := 250
/-- Frames a quay transmit queue holds (R46). -/
def quayQueueMax : Nat := 16
/-- Notices the Notice Queue holds (R200). -/
def noticeQueueMax : Nat := 32
/-- The peak voltage a test unit injects (R71). -/
def injectionVolts : Nat := 50
/-- The injection frequencies, in mHz, by index (Table 3-2). -/
def injectionMHz : Fin 4 → Nat
  | 0 => 1000 | 1 => 1400 | 2 => 2000 | 3 => 2800
/-- Slots of the order buffer (R194). -/
def orderSlots : Nat := 2

/-- What the min′ and full′ fields of GRANT hold while the record holds no bids: the spec states no value, so this is free.
DESIGN CHOICE (log entry 1): one value for each grant the frame carries. -/
opaque absentBid : Nat → Half

/-- What the measured kVA field of WARN_OVERDRAW holds for a power outside the 16-bit signed range: the spec states no value, so this
is free. DESIGN CHOICE (log entry 50): one value for each such power. -/
opaque wideKva : Int → Half

end Config

end Sys2Proof
end

