-- ==== Sys2Proof/Syntax.lean ====
section
/-! DEFINITION. The commands of the block: one constructor of `Instr` for each row of spec/opcode_table.json, with the data the
event carries. The rows that are an order of the host carry none: what the port takes is the oldest order of its buffer (R195). -/

namespace Sys2Proof

/-- A valid HELLO frame's body (Table 2-2). -/
structure Hello where
  identity : List Byte
  vclass : VClass
  sclass : SClass
  bidMin : Half
  bidFull : Half
  modes : Modes
  resume : Bool
  gens : Nat
deriving DecidableEq, Repr

/-- A valid BEACON frame's body (Table 2-2). -/
structure Beacon where
  gens : Nat
  load : Half
  breakerClosed : Bool
  busLive : Bool
deriving DecidableEq, Repr

/-- A berth meter report (Table 6-1): volts, mHz, hundredths of a degree, kVA. A frequency is absent where the meter measures
none (R139). -/
structure MeterReport where
  supplyV : Nat
  supplyF : Option Nat
  cableV : Nat
  cableF : Option Nat
  phase : Int
  power : Int
  validMark : Bool
deriving DecidableEq, Repr

/-- The commands: the rows of the table, in its order. -/
inductive Instr where
  | coldStart (settingsPass historyPass targetPass : Bool)
  | auxiliarySupplyLoss
  | startWindowClose
  | hostFrameReceived (tag kind : Byte) (body : List Byte)
  | hostFrameDiscarded (held : List Byte)
  | hostFrameGap
  | hostFrameSent
  | queryUnit
  | queryBerth
  | queryQueue
  | queryPermit
  | queryTests
  | queryModules
  | readSettings
  | curtail
  | release
  | releaseForce
  | block
  | unblock
  | clear
  | reinit
  | proof
  | prepare
  | apply
  | census
  | restart
  | storeWriteComplete (testPassed : Bool)
  | writeLimitExpiry
  | quayFrameDiscarded (b : Berth) (held : List Byte)
  | quayFrameGap (b : Berth)
  | quayFrameSent (b : Berth)
  | lossTimerExpiry (b : Berth)
  | shoreBeaconTimerExpiry (b : Berth)
  | callRepeatTimerExpiry (b : Berth)
  | hello (b : Berth) (h : Hello)
  | beacon (b : Berth) (r : Beacon)
  | cableLive (b : Berth)
  | dark (b : Berth)
  | unloaded (b : Berth)
  | takeback (b : Berth)
  | gensOn (b : Berth)
  | bye (b : Berth)
  | plugProximityChange (b : Berth) (asserted : Bool)
  | pilotLoopOpen (b : Berth)
  | pilotLoopContinuous (b : Berth)
  | quietTimerExpiry (b : Berth)
  | contactLimitExpiry (b : Berth)
  | retestDelayExpiry (b : Berth)
  | selectorFeedback (b : Berth) (at50 at60 : Bool)
  | selectorLimitExpiry (b : Berth)
  | earthSwitchFeedback (b : Berth) (closed opened : Bool)
  | earthingSwitchLimitExpiry (b : Berth)
  | dischargeIntervalExpiry (b : Berth)
  | cableLimitExpiry (b : Berth)
  | readyLimitExpiry (b : Berth)
  | meterReport (b : Berth) (r : MeterReport)
  | freshnessTimerExpiry (b : Berth)
  | syncTimerExpiry
  | parallelTimerExpiry
  | reversePowerTimerExpiry
  | gensOnLimitExpiry
  | returnParallelTimerExpiry
  | answerLimitExpiry (b : Berth)
  | takeBackLimitExpiry (b : Berth)
  | breakerFeedback (b : Berth) (closed opened : Bool)
  | closeSupervisionExpiry (b : Berth)
  | openSupervisionExpiry (b : Berth)
  | ownTripInputChange (b : Berth) (asserted : Bool)
  | groupTripBusChange (g : Group) (asserted : Bool)
  | estopActive
  | estopInactive
  | earthSwitchDisagreementExpiry (b : Berth)
  | selectorDisagreementExpiry (b : Berth)
  | overdrawTimerExpiry (b : Berth)
  | earthIntervalExpiry (u : TestUnit) (milliohm : Nat)
  | testSwitchLimitExpiry (u : TestUnit)
  | measurementIntervalExpiry (u : TestUnit) (megohm : Nat) (disturbed : Bool)
  | testDischargeIntervalExpiry (u : TestUnit) (cableV : Nat)
  | admissionScan
  | tripped (m : Module)
  | restartOk (m : Module)
  | restartFail (m : Module)
  | proofPass (m : Module)
  | proofFail (m : Module)
  | restartLimitExpiry (m : Module)
  | proofLimitExpiry (m : Module)
  | settleTimerExpiry
  | idleStopTimerExpiry
deriving DecidableEq, Repr

end Sys2Proof
end

