-- ==== Sys2Proof/Machine/State.lean ====
section
/-! DEFINITION. The state of the unit, block by block as Table 0-1 lists the blocks, with the values after a cold start of a unit
that finds no ship. Times are milliseconds; a timer that runs holds the moment it is due. -/

namespace Sys2Proof.Machine

/-- A timer or limit: the moment it is due, none while it does not run (0.6.4). -/
abbrev Timer := Option Nat

/-! ## Berth Units -/

/-- PROBE substates (Table 1-2). -/
inductive ProbeSub where
  | quiet | calling
deriving DecidableEq, Repr

/-- TEST substates (Table 1-2). -/
inductive TestSub where
  | testWait | testing | retestDelay
deriving DecidableEq, Repr

/-- READY substates (Table 1-2). -/
inductive ReadySub where
  | preparing | waitBank | awaitShip | cableCheck | waitPermit | openClose
deriving DecidableEq, Repr

/-- SYNC substates (Table 1-2). -/
inductive SyncSub where
  | checking | closing
deriving DecidableEq, Repr

/-- ON_SHORE substates (Table 1-2). -/
inductive ShoreSub where
  | supplied | linkHold
deriving DecidableEq, Repr

/-- RETURN substates (Table 6-4). -/
inductive ReturnSub where
  | lineWait | gensWait | returnParallel | separating | forcedOpen
deriving DecidableEq, Repr

/-- RELEASED substates (Table 1-2). -/
inductive ReleasedSub where
  | earthing | earthed
deriving DecidableEq, Repr

/-- A berth's state with its substate (Table 1-2). -/
inductive BState where
  | vacant
  | probe (sub : ProbeSub)
  | test (sub : TestSub)
  | queued
  | ready (sub : ReadySub)
  | sync (sub : SyncSub)
  | parallel
  | onShore (sub : ShoreSub)
  | returning (sub : ReturnSub)
  | released (sub : ReleasedSub)
  | faulted
  | blocked
  | adopted
deriving DecidableEq, Repr

/-- The mode of the transfer in progress (Table 1-1). -/
inductive TransferMode where
  | closed | opened
deriving DecidableEq, Repr

/-- Where the earthing procedure of R7 stands: not running, waiting at step 1, in the discharge interval, or with the switch
commanded closed. -/
inductive EarthProc where
  | idle | waiting | discharging | closing
deriving DecidableEq, Repr

/-- A breaker command given and not yet seen carried out (R20, R173). -/
inductive BreakerCmd where
  | close | opening
deriving DecidableEq, Repr

/-- A position of an earthing switch (R177). -/
inductive SwitchPos where
  | opened | closed
deriving DecidableEq, Repr

/-- The timers a Berth Unit owns. -/
structure BerthTimers where
  quiet : Timer
  contact : Timer
  retest : Timer
  selector : Timer
  earthSwitch : Timer
  discharge : Timer
  cable : Timer
  ready : Timer
  answer : Timer
  takeBack : Timer
  freshness : Timer
deriving DecidableEq, Repr

/-- A Berth Unit: the Berth Record of Table 1-1 less the fields that mirror another block, and what the rules of chapters 1, 2, 6
and 8 have the unit remember beside it. -/
structure BerthUnit where
  st : BState
  identity : Option (List Byte)
  vclass : Option VClass
  sclass : Option SClass
  modes : Option Modes
  bidMin : Option Nat
  bidFull : Option Nat
  minEff : Option Nat
  fullEff : Option Nat
  gens : Option Nat
  grant : Nat
  draw : Nat
  seq : Option Nat
  transferMode : Option TransferMode
  syncAttempts : Nat
  retestCount : Nat
  lastFault : Option FaultCause
  attachSeen : Bool
  detachSeen : Bool
  releasePending : Bool
  shed : Bool
  adoptedMark : Bool
  lastKva : Int
  /-- The current meter report, absent when stale (R140). -/
  report : Option MeterReport
  /-- When the report came that last measured kVA was taken from (R140). -/
  reportAt : Option Nat
  /-- The quiet timer has expired and QUIET waits for its two conditions (R10). -/
  quietDone : Bool
  /-- An UNLOADED is held (R24). -/
  heldUnloaded : Bool
  /-- GRANT has been sent since entry to READY (R8, R22). -/
  grantSent : Bool
  /-- The resume answer of an ADOPTED berth has been accepted (R187). -/
  answered : Bool
  earthing : EarthProc
  breakerCmd : Option BreakerCmd
  switchCmd : Option SwitchPos
  selectorCmd : Option SClass
  timers : BerthTimers
deriving DecidableEq, Repr

/-! ## Quay Link Channels -/

/-- Link status (R47). -/
inductive Link where
  | down | up | lost
deriving DecidableEq, Repr

/-- The kinds of ship message a REFUSE can name (Table 2-2). -/
inductive ShipKind where
  | hello | beacon | cableLive | dark | unloaded | takeback | gensOn | bye
deriving DecidableEq, Repr

/-- REFUSE reasons (Table 2-3). -/
inductive RefuseReason where
  | classMismatch | supplyUnavailable | transferMode | classChange | state | blocked | resumeExpected
deriving DecidableEq, Repr

/-- OPENED reasons (Table 2-3). -/
inductive OpenedReason where
  | returned | forced | fault (c : FaultCause)
deriving DecidableEq, Repr

/-- The shore messages with their bodies (Table 2-2). -/
inductive QuayMsg where
  | call (berth : Nat) (resume : Bool)
  | welcome (berth minEff fullEff : Nat) (modes : Modes) (resume : Bool)
  | grant (grant : Nat) (minEff fullEff : Option Nat) (topup : Bool)
  | raised (grant : Nat)
  | reduced (grant : Nat)
  | match_ (slip phase dv : Int) (inWindow : Bool)
  | closed
  | syncAbandoned
  | permitReturn
  | takebackOrder
  | opened (reason : OpenedReason)
  | warnOverdraw (grant : Nat) (kva : Int)
  | refuse (reason : RefuseReason) (kind : ShipKind)
  | shoreState (st : BState) (grant : Nat)
deriving DecidableEq, Repr

/-- A Quay Link Channel (chapter 2). -/
structure Channel where
  link : Link
  loss : Timer
  shoreBeacon : Timer
  callRepeat : Timer
  beacon : Option Beacon
  /-- The frames waiting, oldest first (R46). -/
  queue : List QuayMsg
  /-- The frame being transmitted (R46). -/
  sending : Option QuayMsg
  /-- What the receive framer holds, nothing while it hunts (R44). -/
  held : List Byte
deriving DecidableEq, Repr

/-! ## Test Dispatcher -/

/-- Test unit statuses (Table 3-1). -/
inductive UnitStatus where
  | free | earth | opening | insulation | closing
deriving DecidableEq, Repr

/-- Verdicts (Table 3-4). -/
inductive Verdict where
  | pass | fail | inconclusive | aborted
deriving DecidableEq, Repr

/-- A result record (Table 3-4). -/
structure TestResult where
  verdict : Verdict
  unit : TestUnit
  earth : Option Nat
  insulation : Option Nat
  index : Fin 4
  hops : Nat
deriving DecidableEq, Repr

/-- What a test unit injects between the cable's phase conductors and earth: peak volts, and the frequency in mHz (R71). -/
structure Injection where
  volts : Nat
  mHz : Nat
deriving DecidableEq, Repr

/-- A test unit's busy record (R65), its readings so far and its intervals. -/
structure UnitRec where
  status : UnitStatus
  berth : Option Berth
  attempt : Nat
  index : Fin 4
  earth : Option Nat
  insulation : Option Nat
  verdict : Option Verdict
  /-- The signal injected, none while the unit injects nothing (R71). -/
  injection : Option Injection
  /-- The earthing switch was seen other than open in this attempt (R71). -/
  shorted : Bool
  earthInterval : Timer
  measurement : Timer
  discharge : Timer
  switchLimit : Timer
deriving DecidableEq, Repr

/-- A place in the Test Queue (R66). -/
structure TestEntry where
  berth : Berth
  joined : Nat
deriving DecidableEq, Repr

/-- The Test Dispatcher (chapter 3). -/
structure TestDispatcher where
  unitA : UnitRec
  unitB : UnitRec
  queue : List TestEntry
  results : PerBerth (Option TestResult)
  lastGood : PerBerth (Fin 4)
deriving DecidableEq, Repr

/-! ## Feeder Budget Unit -/

/-- The mark of a curtail target (Table 4-1). -/
inductive TargetMark where
  | volatile | persistent
deriving DecidableEq, Repr

/-- A curtail target (Table 4-1). -/
structure CurtailTarget where
  kva : Nat
  mark : TargetMark
deriving DecidableEq, Repr

/-- Kinds of Admission Queue entry (R90): ADMIT, here `admission`, and TOPUP. -/
inductive EntryKind where
  | admission | topup
deriving DecidableEq, Repr

/-- An Admission Queue entry (Table 4-3). -/
structure AdmEntry where
  berth : Berth
  kind : EntryKind
  sought : Nat
  minimum : Nat
  join : Nat
  passOver : Nat
deriving DecidableEq, Repr

/-- An admission scan that has been started and not yet run, with the queue and the margins as the event that started it left them
(R92, R99): the last join number it sees, the terminal headroom, and converter capacity less the F60 grants. -/
structure ScanStart where
  upto : Nat
  headroom : Int
  margin : Int
deriving DecidableEq, Repr

/-- The Feeder Budget Unit (Table 4-1). The native limit and the reserve stand in the settings in force. -/
structure FeederBudget where
  working : Nat
  target : Option CurtailTarget
  pendingMark : Bool
  seqCounter : Nat
  joinCounter : Nat
  queue : List AdmEntry
  scans : List ScanStart
  /-- The scans that the running event starts, each with the last join number it sees, none for the whole queue as the event leaves it
  (R92, R99; log 22). Empty between events. -/
  wanted : List (Option Nat)
deriving DecidableEq, Repr

/-! ## Converter Bank Manager -/

/-- Bank states (R114 to R117). -/
inductive BankState where
  | stopped | starting | running | idle
deriving DecidableEq, Repr

/-- The state a RESTARTING module came from (R119). -/
inductive Origin where
  | inService | watch
deriving DecidableEq, Repr

/-- Module states (Table 5-3), with the origin of a restart and the start of a proof (R119). -/
inductive MState where
  | absent
  | inService
  | watch
  | restarting (origin : Origin)
  | proofPending
  | proofing (start : Nat)
  | retired
deriving DecidableEq, Repr

/-- The last command given to a module controller: stop and open the contactor, run and close it, or run a proof test
(R114, R115, R126). -/
inductive ModuleCmd where
  | stop | run | proofTest
deriving DecidableEq, Repr

/-- A module record (R119) with its limits and the command its controller was last given. -/
structure ModuleRec where
  st : MState
  strike : Nat
  restartLimit : Timer
  proofLimit : Timer
  cmd : ModuleCmd
deriving DecidableEq, Repr

/-- The Converter Bank Manager (Table 5-1). -/
structure ConverterBank where
  st : BankState
  settle : Timer
  idleStop : Timer
  stopDue : Bool
  demand : Nat
  modules : PerModule ModuleRec
  proofList : List Module
  counted : Nat
  suspended : Bool
deriving DecidableEq, Repr

/-! ## Transfer Unit -/

/-- Permit Line classes (R143). -/
inductive LineClass where
  | returning | forward
deriving DecidableEq, Repr

/-- A Permit Line entry (R143). -/
structure LineEntry where
  berth : Berth
  cls : LineClass
  head : Bool
deriving DecidableEq, Repr

/-- The last MATCH quantities (Table 6-2). -/
structure MatchData where
  slip : Int
  phase : Int
  dv : Int
  inWindow : Bool
deriving DecidableEq, Repr

/-- The Transfer Unit (Table 6-2), with the mark that a resume round is open (R187). -/
structure TransferUnit where
  holder : Option Berth
  line : List LineEntry
  dwell : PerBerth Nat
  sync : Timer
  parallel : Timer
  reverse : Timer
  gensOn : Timer
  returnParallel : Timer
  threshold : PerBerth (Option Nat)
  lastMatch : Option MatchData
  resumeRound : Bool
deriving DecidableEq, Repr

/-! ## Protection Block -/

/-- A running overdraw watch: when it is due, the grant and the measured kVA that started it (R178). -/
structure OverdrawWatch where
  due : Nat
  grant : Nat
  kva : Int
deriving DecidableEq, Repr

/-- The Protection Block's state for one berth (Table 7-1). -/
structure ProtBerth where
  closeSup : Timer
  openSup : Timer
  /-- The backup-pending mark, with the group in which it was set (R175). -/
  backupPending : Option Group
  switchConfirmed : Option SwitchPos
  selectorConfirmed : Option SClass
  switchDisagree : Timer
  selectorDisagree : Timer
  overdraw : Option OverdrawWatch
deriving DecidableEq, Repr

/-- An entry of a backup holder list (R175, R176). -/
structure Holder where
  berth : Berth
  cleared : Bool
deriving DecidableEq, Repr

/-- The Protection Block (Table 7-1). Its inputs stand in `Lines`; an output is asserted while its list is not empty. -/
structure Protection where
  berth : PerBerth ProtBerth
  holdersA : List Holder
  holdersB : List Holder
deriving DecidableEq, Repr

/-! ## The wires of the terminals (Table 0-5) -/

/-- The inputs wired in from one berth, as they stand. -/
structure BerthLines where
  pilotContinuous : Bool
  proximity : Bool
  ownTrip : Bool
  breakerClosed : Bool
  breakerOpen : Bool
  switchClosed : Bool
  switchOpen : Bool
  selector50 : Bool
  selector60 : Bool
deriving DecidableEq, Repr

/-- The wired inputs. -/
structure Lines where
  berth : PerBerth BerthLines
  busA : Bool
  busB : Bool
  estop : Bool
deriving DecidableEq, Repr

/-! ## Settings Store -/

/-- A module's history value (R132). -/
inductive History where
  | normal | proofPending | retired
deriving DecidableEq, Repr

/-- The record kinds of the Settings Store (R204). -/
inductive RecordKind where
  | settings | moduleHistory | curtailTarget
deriving DecidableEq, Repr

/-- A record handed over to be written (R204). A settings record says whether it changes a budget setting (R203). -/
inductive StoreWrite where
  | settings (record : Settings) (changesBudget : Bool)
  | history (record : PerModule History)
  | target (kva : Nat)
deriving DecidableEq, Repr

/-- The Settings Store: the settings in force, the three stored records with whether each passes its check, and the writes
(chapter 10). -/
structure SettingsStore where
  inForce : Settings
  storedSettings : Settings
  settingsSound : Bool
  storedHistory : PerModule History
  historySound : Bool
  storedTarget : Option Nat
  targetSound : Bool
  running : Option StoreWrite
  writeLimit : Timer
  waiting : List StoreWrite
deriving DecidableEq, Repr

/-! ## Supervisory Link Port -/

/-- The order kinds (Table 9-2). -/
inductive OrderKind where
  | queryUnit | queryBerth | queryQueue | queryPermit | queryTests | queryModules | readSettings | curtail | release | block
  | unblock | clear | reinit | proof | prepare | apply | census | restart
deriving DecidableEq, Repr

/-- A slot of the order buffer: the order held, and whether it has been taken (R194, R195). -/
structure Slot where
  tag : Byte
  kind : OrderKind
  body : List Byte
  taken : Bool
deriving DecidableEq, Repr

/-- REFUSED reasons (Table 9-3). -/
inductive Reason where
  | state | range | sequence | inUse | noSuch
deriving DecidableEq, Repr

/-- Breaker positions (R172). -/
inductive BreakerPos where
  | closed | opened | unknown
deriving DecidableEq, Repr

/-- A berth's permit field (Table 1-1). -/
inductive PermitField where
  | none | waiting | held
deriving DecidableEq, Repr

/-- QUERY_UNIT data (R198). -/
structure UnitReport where
  native : Nat
  working : Nat
  target : Option CurtailTarget
  pendingMark : Bool
  reserve : Nat
  drawSum : Nat
  headroom : Int
  counted : Nat
  bank : BankState
  holder : Option Berth
  estop : Bool
  busA : Bool
  busB : Bool
  outputA : Bool
  outputB : Bool
  holdersA : List Holder
  holdersB : List Holder
  noticeCounter : Nat
  notices : Nat
  prepared : Bool
  sequenceError : Bool
  overflow : Bool
deriving DecidableEq, Repr

/-- Time remaining on each of a berth's timers, absent where it does not run (R198). -/
structure BerthTimes where
  timers : BerthTimers
  closeSup : Timer
  openSup : Timer
  switchDisagree : Timer
  selectorDisagree : Timer
  overdraw : Timer
deriving DecidableEq, Repr

/-- QUERY_BERTH data (R198): the Berth Record with its mirrored fields, and the data of the other blocks for the berth. -/
structure BerthReport where
  berth : Berth
  record : BerthUnit
  permit : PermitField
  queueEntry : Option EntryKind
  passOver : Nat
  link : Link
  reportAge : Option Nat
  beacon : Option Beacon
  result : Option TestResult
  pilotContinuous : Bool
  ownTrip : Bool
  breaker : BreakerPos
  protection : ProtBerth
  remaining : BerthTimes
deriving DecidableEq, Repr

/-- One entry of QUERY_QUEUE, with its passed-by mark (R111). -/
structure QueueLine where
  entry : AdmEntry
  passedBy : Bool
deriving DecidableEq, Repr

/-- QUERY_QUEUE data (R111). -/
structure QueueReport where
  entries : List QueueLine
  seqCounter : Nat
deriving DecidableEq, Repr

/-- QUERY_PERMIT data (R165); times are times remaining. -/
structure PermitReport where
  holder : Option (Berth × BState)
  sync : Timer
  parallel : Timer
  reverse : Timer
  gensOn : Timer
  returnParallel : Timer
  dwell : Nat
  lastMatch : Option MatchData
  line : List (Berth × LineClass)
  thresholds : List (Berth × Nat)
deriving DecidableEq, Repr

/-- A test unit as QUERY_TESTS reports it (R82). -/
structure UnitLine where
  status : UnitStatus
  serving : Option (Berth × Nat × Fin 4)
deriving DecidableEq, Repr

/-- QUERY_TESTS data (R82). -/
structure TestsReport where
  queue : List TestEntry
  unitA : UnitLine
  unitB : UnitLine
  results : PerBerth (Option TestResult)
  lastGood : PerBerth (Fin 4)
deriving DecidableEq, Repr

/-- A module as QUERY_MODULES reports it (R137): its record with times remaining in place of due times. -/
structure ModuleLine where
  st : MState
  strike : Nat
  restartRemaining : Timer
  proofRemaining : Timer
deriving DecidableEq, Repr

/-- QUERY_MODULES data (R137). -/
structure ModulesReport where
  bank : BankState
  demand : Nat
  stopDue : Bool
  settle : Timer
  idleStop : Timer
  counted : Nat
  capacity : Nat
  suspended : Bool
  modules : PerModule ModuleLine
  proofList : List Module
deriving DecidableEq, Repr

/-- The data of an OK reply (Table 9-3). -/
inductive ReplyData where
  | none
  | unit (d : UnitReport)
  | berth (d : BerthReport)
  | queue (d : QueueReport)
  | permit (d : PermitReport)
  | tests (d : TestsReport)
  | modules (d : ModulesReport)
  | settings (d : Settings) (writeInProgress : Bool)
deriving DecidableEq, Repr

/-- The numeric settings of Table 10-1, each of which APPLY may clamp. -/
inductive SettingName where
  | nativeLimit | reserve | modulesInstalled | eff | suspThreshold | bankSettle | bankIdleStop | contactLimit | readyLimit
  | syncLimit | parallelLimit | returnParallelLimit | takeBackLimit | slipLimit | angleLimit | voltageLimit | dwellN
  | closingTime | reverseLimit | reverseTime | overdrawMargin | overdrawLimit | earthLimit | insulationMin
  | outletRating (b : Berth)
deriving DecidableEq, Repr

/-- The values a CLAMPED reply carries: the working limit (R101, R102) or each clamped setting (R203). -/
inductive Applied where
  | workingLimit (kva : Nat)
  | settings (values : List (SettingName × Nat))
deriving DecidableEq, Repr

/-- The replies (Table 9-3). The code of the order answered is the byte the frame bore. -/
inductive Reply where
  | ok (order : Byte) (data : ReplyData)
  | accepted (order : Byte)
  | clamped (order : Byte) (values : Applied)
  | refused (order : Byte) (reason : Reason)
  | full (order : Byte)
deriving DecidableEq, Repr

/-- A reply waiting to be sent or being sent: its tag, and whether it is the immediate reply (R194, R199). -/
structure ReplyFrame where
  tag : Byte
  immediate : Bool
  reply : Reply
deriving DecidableEq, Repr

/-- The two kinds of start (R182). -/
inductive StartKind where
  | cold | warm
deriving DecidableEq, Repr

/-- What became of an adopted berth in the fill (R191). -/
inductive FillOutcome where
  | granted | shedByFeeder | shedByConverter
deriving DecidableEq, Repr

/-- An adopted berth in the START notice (R191). -/
structure FillLine where
  berth : Berth
  grant : Nat
  draw : Nat
  outcome : FillOutcome
deriving DecidableEq, Repr

/-- The notices (Table 9-4). -/
inductive Notice where
  | berthState (b : Berth) (st : BState) (grant : Nat)
  | grant (b : Berth) (grant draw : Nat) (seq : Option Nat)
  | fault (b : Berth) (cause : FaultCause)
  | testResult (b : Berth) (r : TestResult)
  | module (m : Module) (st : MState) (strike counted : Nat) (suspended : Bool)
  | bank (st : BankState) (demand counted : Nat)
  | curtailDone (kva : Nat)
  | storeDone (k : RecordKind)
  | storeFailed (k : RecordKind)
  | start (kind : StartKind) (defaulted : Bool) (berths : List FillLine) (working : Nat) (pendingMark : Bool)
  | settingsDefaulted
  | releasePending (b : Berth)
deriving DecidableEq, Repr

/-- A notice with the number its post gave it (R200). -/
structure NumberedNotice where
  number : Nat
  notice : Notice
deriving DecidableEq, Repr

/-- The frame the port is transmitting (R199). -/
inductive PortFrame where
  | reply (r : ReplyFrame)
  | notice (n : NumberedNotice)
deriving DecidableEq, Repr

/-- The Supervisory Link Port (chapter 9). -/
structure SupervisoryPort where
  slots : List Slot
  /-- Replies formed and not yet sent, in the order they were formed. -/
  replies : List ReplyFrame
  sending : Option PortFrame
  notices : List NumberedNotice
  counter : Nat
  prepared : Bool
  sequenceError : Bool
  overflow : Bool
  /-- What the receive framer holds. -/
  held : List Byte
  /-- The notices of the running event that wait for its changes of state to be reported, in the order of their causes (R3; log 19).
  Empty between events. -/
  owed : List Notice
deriving DecidableEq, Repr

/-! ## The whole unit -/

/-- A start in progress: its kind, the defaulted mark and the start window (R182, R185, R191). -/
structure StartCourse where
  kind : StartKind
  defaulted : Bool
  window : Nat
deriving DecidableEq, Repr

/-- The state of the unit. `now` is the model's clock and `pending` the model's queue of waiting commands. -/
structure State where
  powered : Bool
  now : Nat
  lines : Lines
  berths : PerBerth BerthUnit
  channels : PerBerth Channel
  tests : TestDispatcher
  budget : FeederBudget
  bank : ConverterBank
  transfer : TransferUnit
  protect : Protection
  port : SupervisoryPort
  store : SettingsStore
  start : Option StartCourse
  pending : List Instr
deriving DecidableEq, Repr

/-! ## Values after a start -/

/-- No berth timer running. -/
def BerthTimers.none : BerthTimers :=
  { quiet := .none, contact := .none, retest := .none, selector := .none, earthSwitch := .none, discharge := .none,
    cable := .none, ready := .none, answer := .none, takeBack := .none, freshness := .none }

/-- The cold-start column of Table 1-3. -/
def BerthUnit.cold : BerthUnit :=
  { st := .vacant, identity := .none, vclass := .none, sclass := .none, modes := .none, bidMin := .none, bidFull := .none,
    minEff := .none, fullEff := .none, gens := .none, grant := 0, draw := 0, seq := .none, transferMode := .none,
    syncAttempts := 0, retestCount := 0, lastFault := .none, attachSeen := false, detachSeen := false,
    releasePending := false, shed := false, adoptedMark := false, lastKva := 0, report := .none, reportAt := .none,
    quietDone := false, heldUnloaded := false, grantSent := false, answered := false, earthing := .idle,
    breakerCmd := .none, switchCmd := .none, selectorCmd := .none, timers := .none }

/-- A channel after a restart (R49). -/
def Channel.restarted : Channel :=
  { link := .down, loss := .none, shoreBeacon := .none, callRepeat := .none, beacon := .none, queue := [], sending := .none,
    held := [] }

/-- A FREE test unit (R65). -/
def UnitRec.free : UnitRec :=
  { status := .free, berth := .none, attempt := 0, index := 0, earth := .none, insulation := .none, verdict := .none,
    injection := .none, shorted := false, earthInterval := .none, measurement := .none, discharge := .none, switchLimit := .none }

/-- The Test Dispatcher after a cold start (R65, R77, R78). -/
def TestDispatcher.cold : TestDispatcher :=
  { unitA := .free, unitB := .free, queue := [], results := .const .none, lastGood := .const 0 }

/-- The Transfer Unit after a start (Table 6-2). -/
def TransferUnit.started : TransferUnit :=
  { holder := .none, line := [], dwell := .const 0, sync := .none, parallel := .none, reverse := .none, gensOn := .none,
    returnParallel := .none, threshold := .const .none, lastMatch := .none, resumeRound := false }

/-- The Supervisory Link Port after a cold start (R191, R200). -/
def SupervisoryPort.cold : SupervisoryPort :=
  { slots := [], replies := [], sending := .none, notices := [], counter := 0, prepared := false, sequenceError := false,
    overflow := false, held := [], owed := [] }

/-- A berth's wires with no plug: breaker open, earthing switch closed, selector at F50. -/
def BerthLines.vacant : BerthLines :=
  { pilotContinuous := false, proximity := false, ownTrip := false, breakerClosed := false, breakerOpen := true,
    switchClosed := true, switchOpen := false, selector50 := true, selector60 := false }

/-- The Protection Block's state for a berth with those wires (Table 7-1). -/
def ProtBerth.vacant : ProtBerth :=
  { closeSup := .none, openSup := .none, backupPending := .none, switchConfirmed := some .closed,
    selectorConfirmed := some .f50, switchDisagree := .none, selectorDisagree := .none, overdraw := .none }

/-- An installed module in service, commanded to stop (R114, R133). -/
def ModuleRec.inService : ModuleRec :=
  { st := .inService, strike := 0, restartLimit := .none, proofLimit := .none, cmd := .stop }

/-- The unit right after reset: the cold-start value of every table, with the default settings stored and sound, no ship at any
berth, and the start's course over. -/
def State.reset : State :=
  { powered := true
    now := 0
    lines := { berth := .const .vacant, busA := false, busB := false, estop := false }
    berths := .const .cold
    channels := .const .restarted
    tests := .cold
    budget := { working := 4000, target := .none, pendingMark := false, seqCounter := 0, joinCounter := 0, queue := [],
                scans := [], wanted := [] }
    bank := { st := .stopped, settle := .none, idleStop := .none, stopDue := false, demand := 0,
              modules := .const .inService, proofList := [], counted := 8, suspended := false }
    transfer := .started
    protect := { berth := .const .vacant, holdersA := [], holdersB := [] }
    port := .cold
    store := { inForce := .default, storedSettings := .default, settingsSound := true,
               storedHistory := .const .normal, historySound := true, storedTarget := .none, targetSound := true,
               running := .none, writeLimit := .none, waiting := [] }
    start := .none
    pending := [] }

/-! ## How a step can stop -/

/-- Reasons a step stops with a fault. The spec gives every command its effect in every state, so the model has none: no
constructor, and no step raises one. -/
inductive Fault where
deriving DecidableEq, Repr

/-- Reasons a step is refused. -/
inductive Refusal where
  /-- Raised by `exec` for a command that has no meaning yet. Safe: nothing can be proved of what it does. -/
  | notModelled (mnemonic : String)
deriving DecidableEq, Repr

end Sys2Proof.Machine
end

