-- ==== Sys2Proof/WellFormed.lean ====
section
/-! DEFINITION. When a command's data are within the ranges the spec gives them. A HELLO or BEACON outside its range is a frame
the channel discards (R45): its meaning is that discard. -/

namespace Sys2Proof

/-- A printable character, 20 to 7E hexadecimal (Table 2-3). -/
def printable (c : Byte) : Bool := 0x20 ≤ c.toNat && c.toNat ≤ 0x7E

/-- The field tests of R45 on a HELLO. -/
def Hello.wellFormed (h : Hello) : Bool :=
  h.identity.length == 8 && h.identity.all printable && decide (h.gens ≤ 8)

/-- The field tests of R45 on a BEACON. -/
def Beacon.wellFormed (r : Beacon) : Bool := decide (r.gens ≤ 8)

/-- The range of a report's phase difference (Table 6-1). -/
def MeterReport.wellFormed (r : MeterReport) : Bool := decide (-18000 ≤ r.phase) && decide (r.phase ≤ 17999)

/-- Every operand of a command lies in the range the spec gives it. -/
def Instr.wellFormed : Instr → Bool
  | .hello _ h => h.wellFormed
  | .beacon _ r => r.wellFormed
  | .meterReport _ r => r.wellFormed
  | .hostFrameReceived _ _ body => decide (body.length ≤ 1022)
  | .earthIntervalExpiry _ r => decide (r ≤ 65535)
  | .measurementIntervalExpiry _ r _ => decide (r ≤ 1000)
  | _ => true

end Sys2Proof
end

