-- ==== Sys2Proof/Machine/Operands.lean ====
section
/-! DEFINITION. What the bytes of a frame spell and what the unit's quantities are: CRC-16 and frame layouts (R43, R192), the
codes of the tables, order bodies and the settings record, and the arithmetic of bids, draws, thresholds and synchronism. -/

namespace Sys2Proof.Machine

/-! ## Arithmetic (0.6.5) -/

/-- The greatest multiple of 10 not above n. -/
def roundDown10 (n : Nat) : Nat := n / 10 * 10

/-- The least multiple of 10 not below n. -/
def roundUp10 (n : Nat) : Nat := (n + 9) / 10 * 10

/-- The greatest multiple of 10 not above x. -/
def roundDown10Int (x : Int) : Int := x / 10 * 10

/-- The quotient rounded half away from zero, for a positive divisor (R148). -/
def divHalfAway (x : Int) (d : Nat) : Int :=
  if 0 ≤ x then ((2 * x.natAbs + d) / (2 * d) : Nat) else -(((2 * x.natAbs + d) / (2 * d) : Nat) : Int)

/-- A value brought into a range by taking the nearer end. -/
def clampNat (lo hi v : Nat) : Nat := max lo (min hi v)

/-- A signed value brought into a range by taking the nearer end. -/
def clampInt (lo hi v : Int) : Int := max lo (min hi v)

/-- The draw of a grant: the grant at F50, and at F60 the least multiple of 10 whose product with eff is at least 100 times the
grant (R86). -/
def drawOf (cls : SClass) (eff grant : Nat) : Nat :=
  match cls with
  | .f50 => grant
  | .f60 => 10 * ((10 * grant + eff - 1) / eff)

/-- The largest multiple of 10 whose draw is not above the room (R96, R103). Below 0 where the room is. -/
def largestGrant (cls : SClass) (eff : Nat) (room : Int) : Int :=
  match cls with
  | .f50 => roundDown10Int room
  | .f60 => roundDown10Int (roundDown10Int room * eff / 100)

/-- The bids of a HELLO as clamped: bid minimum and bid full (R54). -/
def clampBids (bidMin bidFull : Nat) : Nat × Nat :=
  let lo := min bidMin 3000
  let hi := max 10 (min bidFull 3000)
  (min lo hi, hi)

/-- full′ from the bid full and the outlet rating (R87). -/
def fullOf (bidFull rating : Nat) : Nat := roundUp10 (min bidFull rating)

/-- min′ from the bid minimum and full′ (R87). -/
def minOf (bidMin full : Nat) : Nat := roundUp10 (min bidMin full)

/-- The release threshold of a berth that held a grant (R158). -/
def thresholdOf (grant : Nat) : Nat := max 50 ((grant + 19) / 20)

/-- The adopted grant that a measured power gives: rounded up to a multiple of 10, at least 10 and at most 3,000 (R185). -/
def adoptedGrantOf (kva : Int) : Nat := clampNat 10 3000 (roundUp10 kva.toNat)

/-! ## Synchronism (R148, R149) -/

/-- Slip, cable frequency less supply frequency, in mHz. -/
def slipOf (fs fc : Nat) : Int := (fc : Int) - fs

/-- The angle correction k for the closing time. -/
def angleCorrection (slip : Int) (tc : Nat) : Int := divHalfAway (36 * slip * tc) 1000

/-- The predicted angle p, wrapped once. -/
def predictedAngle (phase k : Int) : Int :=
  let sum := phase + k
  if sum < -18000 then sum + 36000 else if 17999 < sum then sum - 36000 else sum

/-- The voltage difference in tenths of a percent of nominal, truncated toward zero. -/
def voltageDifference (vs vc vn : Nat) : Int := (((vc : Int) - vs) * 1000).tdiv vn

/-- The in-window test on slip, voltage difference, measured and predicted angle (R149). -/
def inWindow (set : Settings) (slip dv phase predicted : Int) : Bool :=
  decide (slip.natAbs ≤ set.slipLimit) && decide (dv.natAbs ≤ set.voltageLimit) && decide (phase.natAbs ≤ 9000)
    && decide (predicted.natAbs ≤ set.angleLimit)

/-- The quantities of a valid report that carries both frequencies, none where one is absent (R148 to R150). -/
def syncQuantities (set : Settings) (vn : Nat) (r : MeterReport) : Option MatchData :=
  match r.supplyF, r.cableF with
  | some fs, some fc =>
    let s := slipOf fs fc
    let p := predictedAngle r.phase (angleCorrection s set.closingTime)
    let dv := voltageDifference r.supplyV r.cableV vn
    some { slip := s, phase := r.phase, dv := dv, inWindow := inWindow set s dv r.phase p }
  | _, _ => none

/-- A signed field as MATCH sends it: the nearer end of the 16-bit range (R62). -/
def clampSigned (x : Int) : Int := clampInt (-32768) 32767 x

/-! ## Codes of the tables -/

/-- Voltage class codes (Table 2-3). -/
def vclassCode : VClass → Byte
  | .hv11 => 1 | .hv6 => 2 | .lv690 => 3

/-- The voltage class of a code. -/
def vclassOfCode (c : Byte) : Option VClass :=
  match c.toNat with
  | 1 => some .hv11 | 2 => some .hv6 | 3 => some .lv690 | _ => none

/-- The supply class of a code (Table 2-3). -/
def sclassOfCode (c : Byte) : Option SClass :=
  match c.toNat with
  | 1 => some .f50 | 2 => some .f60 | _ => none

/-- Codes of the transfer modes (Table 2-3). -/
def modesCode : Modes → Byte
  | .closed => 1 | .opened => 2 | .both => 3

/-- The transfer modes of a code. -/
def modesOfCode (c : Byte) : Option Modes :=
  match c.toNat with
  | 1 => some .closed | 2 => some .opened | 3 => some .both | _ => none

/-- A mark's code: 0 clear, 1 set; also no and yes (Table 2-3, R202). -/
def boolCode (x : Bool) : Byte := if x then 1 else 0

/-- The mark of a code. -/
def boolOfCode (c : Byte) : Option Bool :=
  match c.toNat with
  | 0 => some false | 1 => some true | _ => none

/-- Detection source codes (R202). -/
def detectionCode : Detection → Byte
  | .pilot => 1 | .proximity => 2 | .both => 3

/-- The detection source of a code (R202). -/
def detectionOfCode (c : Byte) : Option Detection :=
  match c.toNat with
  | 1 => some .pilot | 2 => some .proximity | 3 => some .both | _ => none

/-- Trip source codes (R202). -/
def tripSourceCode : TripSource → Byte
  | .own => 1 | .group => 2 | .either => 3

/-- The trip source of a code (R202). -/
def tripSourceOfCode (c : Byte) : Option TripSource :=
  match c.toNat with
  | 1 => some .own | 2 => some .group | 3 => some .either | _ => none

/-- Group codes (R202). -/
def groupCode : Group → Byte
  | .a => 1 | .b => 2

/-- The group of a code (R202). -/
def groupOfCode (c : Byte) : Option Group :=
  match c.toNat with
  | 1 => some .a | 2 => some .b | _ => none

/-- Curtail mark codes (Table 9-2). -/
def markOfCode (c : Byte) : Option TargetMark :=
  match c.toNat with
  | 1 => some .volatile | 2 => some .persistent | _ => none

/-- Berth state codes (Table 2-3). -/
def bstateCode : BState → Byte
  | .vacant => 1 | .probe _ => 2 | .test _ => 3 | .queued => 4 | .ready _ => 5 | .sync _ => 6 | .parallel => 7
  | .onShore _ => 8 | .returning _ => 9 | .released _ => 10 | .faulted => 11 | .blocked => 12 | .adopted => 13

/-- The place of a fault cause in the order of Table 2-6. -/
def causeIndex : FaultCause → Nat
  | .noContact => 0 | .classMismatch => 1 | .supplyUnavailable => 2 | .transferMode => 3 | .testFail => 4
  | .testInconclusive => 5 | .selector => 6 | .earthSwitch => 7 | .cableState => 8 | .breakerClose => 9 | .breakerOpen => 10
  | .backupTrip => 11 | .syncFail => 12 | .parallelOverrun => 13 | .reversePower => 14 | .overdraw => 15 | .pilotOpen => 16
  | .tripOwn => 17 | .tripGroup => 18 | .estop => 19 | .shedForced => 20 | .linkLostTransfer => 21

/-- OPENED reason codes (Table 2-3): the fault causes take 16 to 37 in the order given under Table 2-6. -/
def openedCode : OpenedReason → Byte
  | .returned => 1 | .forced => 2 | .fault c => BitVec.ofNat 8 (16 + causeIndex c)

/-- REFUSE reason codes (Table 2-3). -/
def refuseCode : RefuseReason → Byte
  | .classMismatch => 1 | .supplyUnavailable => 2 | .transferMode => 3 | .classChange => 4 | .state => 5 | .blocked => 6
  | .resumeExpected => 7

/-- Ship message kind codes (Table 2-2). -/
def shipKindCode : ShipKind → Byte
  | .hello => 0x11 | .beacon => 0x12 | .cableLive => 0x13 | .dark => 0x14 | .unloaded => 0x15 | .takeback => 0x16
  | .gensOn => 0x17 | .bye => 0x18

/-- Order codes (Table 9-2). -/
def orderCode : OrderKind → Byte
  | .queryUnit => 0x41 | .queryBerth => 0x42 | .queryQueue => 0x43 | .queryPermit => 0x44 | .queryTests => 0x45
  | .queryModules => 0x46 | .readSettings => 0x47 | .curtail => 0x48 | .release => 0x49 | .block => 0x4A | .unblock => 0x4B
  | .clear => 0x4C | .reinit => 0x4D | .proof => 0x4E | .prepare => 0x4F | .apply => 0x50 | .census => 0x51 | .restart => 0x52

/-- The order of a code (Table 9-2). -/
def orderOfCode (c : Byte) : Option OrderKind :=
  match c.toNat with
  | 0x41 => some .queryUnit | 0x42 => some .queryBerth | 0x43 => some .queryQueue | 0x44 => some .queryPermit
  | 0x45 => some .queryTests | 0x46 => some .queryModules | 0x47 => some .readSettings | 0x48 => some .curtail
  | 0x49 => some .release | 0x4A => some .block | 0x4B => some .unblock | 0x4C => some .clear | 0x4D => some .reinit
  | 0x4E => some .proof | 0x4F => some .prepare | 0x50 => some .apply | 0x51 => some .census | 0x52 => some .restart
  | _ => none

/-- The body length an order kind requires (Table 9-2, R202). -/
def orderLength : OrderKind → Nat
  | .queryUnit | .queryQueue | .queryPermit | .queryTests | .queryModules | .readSettings | .prepare | .census | .restart => 0
  | .queryBerth | .block | .unblock | .clear | .reinit | .proof => 1
  | .release => 2
  | .curtail => 3
  | .apply => 83

/-- Reply codes (Table 9-3). -/
def replyCode : Reply → Byte
  | .ok _ _ => 0x61 | .accepted _ => 0x62 | .clamped _ _ => 0x63 | .refused _ _ => 0x64 | .full _ => 0x65

/-- REFUSED reason codes (Table 9-3). -/
def reasonCode : Reason → Byte
  | .state => 1 | .range => 2 | .sequence => 3 | .inUse => 4 | .noSuch => 5

/-- Notice codes (Table 9-4). -/
def noticeCode : Notice → Byte
  | .berthState .. => 0x71 | .grant .. => 0x72 | .fault .. => 0x73 | .testResult .. => 0x74 | .module .. => 0x75
  | .bank .. => 0x76 | .curtailDone _ => 0x77 | .storeDone _ => 0x78 | .storeFailed _ => 0x79 | .start .. => 0x7A
  | .settingsDefaulted => 0x7B | .releasePending _ => 0x7C

/-! ## CRC-16 and frames (R43, R192) -/

/-- One bit of the check: the generator is x¹⁶ + x¹² + x⁵ + 1 (R43). -/
def crcShift (c : Half) : Half :=
  if c.msb then (c <<< 1) ^^^ 0x1021 else c <<< 1

/-- One byte of the check, most significant bit first (R43). -/
def crcByte (c : Half) (x : Byte) : Half :=
  let c := c ^^^ (x.zeroExtend 16 <<< 8)
  crcShift (crcShift (crcShift (crcShift (crcShift (crcShift (crcShift (crcShift c)))))))

/-- The CRC-16 of a run of bytes, from FFFF hexadecimal, not inverted (R43). -/
def crc16 (bs : List Byte) : Half := bs.foldl crcByte 0xFFFF

/-- A frame around its checked bytes: start byte, bytes, CRC-16 high byte first (R43, R192). -/
def framed (start : Byte) (checked : List Byte) : List Byte := start :: checked ++ (crc16 checked).bytes

/-- A quay frame of a kind and a body (Table 2-1). -/
def quayFrame (kind : Byte) (body : List Byte) : List Byte :=
  framed 0x96 (BitVec.ofNat 8 (body.length + 1) :: kind :: body)

/-- A supervisory frame of a tag, a kind and a body (Table 9-1). -/
def portFrameBytes (tag kind : Byte) (body : List Byte) : List Byte :=
  framed 0xA5 (Half.bytes (BitVec.ofNat 16 (body.length + 2)) ++ tag :: kind :: body)

/-- An unsigned two-byte field. -/
def natField (n : Nat) : List Byte := Half.bytes (BitVec.ofNat 16 n)

/-- The field of an effective bid in GRANT. Where the record holds none, as R190 lets happen, the spec states no value: it is
free. -/
def bidField (grant : Nat) : Option Nat → List Byte
  | some n => natField n
  | none => Half.bytes (Config.absentBid grant)

/-- A signed two-byte field, two's complement (R42). -/
def intField (x : Int) : List Byte := Half.bytes (BitVec.ofInt 16 x)

/-- The measured kVA field of WARN_OVERDRAW. Outside the 16-bit signed range the spec states no value: it is free (log 50). -/
def kvaField (x : Int) : List Byte := if -32768 ≤ x ∧ x ≤ 32767 then intField x else Half.bytes (Config.wideKva x)

/-- The kind code of a shore message (Table 2-2). -/
def quayCode : QuayMsg → Byte
  | .call .. => 0x31 | .welcome .. => 0x32 | .grant .. => 0x33 | .raised _ => 0x34 | .reduced _ => 0x35 | .match_ .. => 0x36
  | .closed => 0x37 | .syncAbandoned => 0x38 | .permitReturn => 0x39 | .takebackOrder => 0x3A | .opened _ => 0x3B
  | .warnOverdraw .. => 0x3C | .refuse .. => 0x3D | .shoreState .. => 0x3E

/-- The body of a shore message (Table 2-2). -/
def quayBody : QuayMsg → List Byte
  | .call b r => [BitVec.ofNat 8 b, boolCode r]
  | .welcome b mn fl md r => BitVec.ofNat 8 b :: natField mn ++ natField fl ++ [modesCode md, boolCode r]
  | .grant g mn fl t => natField g ++ bidField g mn ++ bidField g fl ++ [boolCode t]
  | .raised g => natField g
  | .reduced g => natField g
  | .match_ s p v w => intField s ++ intField p ++ intField v ++ [boolCode w]
  | .closed => []
  | .syncAbandoned => []
  | .permitReturn => []
  | .takebackOrder => []
  | .opened r => [openedCode r]
  | .warnOverdraw g k => natField g ++ kvaField k
  | .refuse r k => [refuseCode r, shipKindCode k]
  | .shoreState st g => bstateCode st :: natField g

/-- The bytes of a shore message on the line (R43). -/
def quayBytes (m : QuayMsg) : List Byte := quayFrame (quayCode m) (quayBody m)

/-- The fields of a HELLO body, none where an enumerated field holds no value of Table 2-3 (R45). -/
def parseHello : List Byte → Option Hello
  | [i1, i2, i3, i4, i5, i6, i7, i8, v, sc, m1, m2, f1, f2, md, rs, g] =>
    match vclassOfCode v, sclassOfCode sc, modesOfCode md, boolOfCode rs with
    | some v, some sc, some md, some rs =>
      let h : Hello := { identity := [i1, i2, i3, i4, i5, i6, i7, i8], vclass := v, sclass := sc,
                         bidMin := Half.ofBytes m1 m2, bidFull := Half.ofBytes f1 f2, modes := md, resume := rs, gens := g.toNat }
      if h.wellFormed then some h else none
    | _, _, _, _ => none
  | _ => none

/-- The fields of a BEACON body (R45). -/
def parseBeacon : List Byte → Option Beacon
  | [g, l1, l2, cb, live] =>
    match boolOfCode cb, boolOfCode live with
    | some cb, some live =>
      let r : Beacon := { gens := g.toNat, load := Half.ofBytes l1 l2, breakerClosed := cb, busLive := live }
      if r.wellFormed then some r else none
    | _, _ => none
  | _ => none

/-- The kind and body of a frame that passes its check are a ship message (R45). -/
def shipMessageValid (kind : Byte) (body : List Byte) : Bool :=
  match kind.toNat with
  | 0x11 => (parseHello body).isSome
  | 0x12 => (parseBeacon body).isSome
  | 0x13 | 0x14 | 0x15 | 0x16 | 0x17 | 0x18 => body.isEmpty
  | _ => false

/-- The bytes begin with a whole valid ship frame after a start byte and this length (R43, R45). -/
def quayFrameValid (len : Byte) (rest : List Byte) : Bool :=
  let n := len.toNat
  let kindBody := rest.take n
  (crc16 (len :: kindBody)).bytes == (rest.drop n).take 2 &&
    match kindBody with
    | kind :: body => shipMessageValid kind body
    | [] => false

/-- What a quay framer holds once it has hunted through these bytes: nothing, a partial frame, or bytes that begin with a valid
frame not yet delivered (R44, R45). DEDUCED (log 72): after a frame that passes its check and fails the tests of R45 the hunt resumes
with the byte behind its start byte, as after a bad check. -/
def huntQuay : List Byte → List Byte
  | [] => []
  | x :: rest =>
    if x ≠ 0x96 then huntQuay rest
    else
      match rest with
      | [] => [x]
      | len :: more =>
        if len.toNat = 0 ∨ 18 < len.toNat then huntQuay more
        else if more.length < len.toNat + 2 then x :: len :: more
        else if quayFrameValid len more then x :: len :: more
        else huntQuay (len :: more)

/-- What a quay framer holds once the frame its bytes begin with has been delivered (R44). -/
def takeQuay : List Byte → List Byte
  | _ :: len :: more => if len.toNat + 2 ≤ more.length then huntQuay (more.drop (len.toNat + 2)) else []
  | _ => []

/-- The bytes after the length field hold a whole supervisory frame with a good check (R192). -/
def portFrameValid (l1 l2 : Byte) (rest : List Byte) : Bool :=
  let n := (Half.ofBytes l1 l2).toNat
  (crc16 (l1 :: l2 :: rest.take n)).bytes == (rest.drop n).take 2

/-- What the port's framer holds once it has hunted through these bytes (R193). -/
def huntPort : List Byte → List Byte
  | [] => []
  | x :: rest =>
    if x ≠ 0xA5 then huntPort rest
    else
      match rest with
      | [] => [x]
      | [l1] => [x, l1]
      | l1 :: l2 :: more =>
        let n := (Half.ofBytes l1 l2).toNat
        if n < 2 ∨ 1024 < n then huntPort more
        else if more.length < n + 2 then x :: l1 :: l2 :: more
        else if portFrameValid l1 l2 more then x :: l1 :: l2 :: more
        else huntPort (l1 :: l2 :: more)

/-- What the port's framer holds once the frame its bytes begin with has been judged (R193). -/
def takePort : List Byte → List Byte
  | _ :: l1 :: l2 :: more =>
    let n := (Half.ofBytes l1 l2).toNat
    if n + 2 ≤ more.length then huntPort (more.drop (n + 2)) else []
  | _ => []

/-! ## Order bodies -/

/-- The byte at a place of a body. -/
def byteAt (bs : List Byte) (i : Nat) : Byte := bs.getD i 0

/-- The two-byte field at a place of a body. -/
def halfAt (bs : List Byte) (i : Nat) : Nat := (Half.ofBytes (byteAt bs i) (byteAt bs (i + 1))).toNat

/-- The berth a body names in its first byte, none where it names no berth (R197). -/
def berthOperand (bs : List Byte) : Option Berth := Berth.ofNumber (byteAt bs 0).toNat

/-- The module a body names in its first byte, none where it names no module (R197). -/
def moduleOperand (bs : List Byte) : Option Module := Module.ofNumber (byteAt bs 0).toNat

/-- One berth's group of a settings record (R202). -/
def berthSettingsAt (bs : List Byte) (i : Nat) : Option BerthSettings :=
  match vclassOfCode (byteAt bs (i + 2)), boolOfCode (byteAt bs (i + 3)), boolOfCode (byteAt bs (i + 4)),
      detectionOfCode (byteAt bs (i + 5)), tripSourceOfCode (byteAt bs (i + 6)), groupOfCode (byteAt bs (i + 7)) with
  | some v, some f, some o, some d, some t, some g =>
    some { outletRating := halfAt bs i, vclass := v, f60Allowed := f, openAllowed := o, detection := d, tripSource := t,
           group := g }
  | _, _, _, _, _, _ => none

/-- The settings an APPLY body spells, not yet clamped; none where an enumerated field is outside its codes (R197, R202). -/
def parseSettings (bs : List Byte) : Option Settings :=
  match boolOfCode (byteAt bs 4), berthSettingsAt bs 35, berthSettingsAt bs 43, berthSettingsAt bs 51, berthSettingsAt bs 59,
      berthSettingsAt bs 67, berthSettingsAt bs 75 with
  | some ci, some s1, some s2, some s3, some s4, some s5, some s6 =>
    some { nativeLimit := halfAt bs 0, reserve := halfAt bs 2, converterInstalled := ci,
           modulesInstalled := (byteAt bs 5).toNat, eff := (byteAt bs 6).toNat, suspThreshold := (byteAt bs 7).toNat,
           bankSettle := (byteAt bs 8).toNat, bankIdleStop := (byteAt bs 9).toNat, contactLimit := (byteAt bs 10).toNat,
           readyLimit := halfAt bs 11, syncLimit := halfAt bs 13, parallelLimit := halfAt bs 15,
           returnParallelLimit := halfAt bs 17, takeBackLimit := halfAt bs 19, slipLimit := (byteAt bs 21).toNat,
           angleLimit := halfAt bs 22, voltageLimit := (byteAt bs 24).toNat, dwellN := (byteAt bs 25).toNat,
           closingTime := (byteAt bs 26).toNat, reverseLimit := (byteAt bs 27).toNat, reverseTime := (byteAt bs 28).toNat,
           overdrawMargin := (byteAt bs 29).toNat, overdrawLimit := halfAt bs 30, earthLimit := halfAt bs 32,
           insulationMin := (byteAt bs 34).toNat, berth := ⟨s1, s2, s3, s4, s5, s6⟩ }
  | _, _, _, _, _, _, _ => none

/-- A berth's settings clamped (R203, Table 10-1). -/
def clampBerthSettings (s : BerthSettings) : BerthSettings := { s with outletRating := clampNat 100 3000 s.outletRating }

/-- The settings clamped to the ranges of Table 10-1, the native limit and the reserve then to multiples of 10 (R203). -/
def clampSettings (s : Settings) : Settings :=
  { nativeLimit := roundDown10 (clampNat 500 20000 s.nativeLimit)
    reserve := roundDown10 (clampNat 0 2000 s.reserve)
    converterInstalled := s.converterInstalled
    modulesInstalled := clampNat 1 8 s.modulesInstalled
    eff := clampNat 85 99 s.eff
    suspThreshold := clampNat 0 8 s.suspThreshold
    bankSettle := clampNat 5 120 s.bankSettle
    bankIdleStop := clampNat 1 60 s.bankIdleStop
    contactLimit := clampNat 5 120 s.contactLimit
    readyLimit := clampNat 60 1800 s.readyLimit
    syncLimit := clampNat 30 600 s.syncLimit
    parallelLimit := clampNat 10 300 s.parallelLimit
    returnParallelLimit := clampNat 10 300 s.returnParallelLimit
    takeBackLimit := clampNat 60 900 s.takeBackLimit
    slipLimit := clampNat 20 250 s.slipLimit
    angleLimit := clampNat 200 2000 s.angleLimit
    voltageLimit := clampNat 10 100 s.voltageLimit
    dwellN := clampNat 1 10 s.dwellN
    closingTime := clampNat 20 250 s.closingTime
    reverseLimit := clampNat 1 20 s.reverseLimit
    reverseTime := clampNat 1 10 s.reverseTime
    overdrawMargin := clampNat 100 130 s.overdrawMargin
    overdrawLimit := clampNat 10 600 s.overdrawLimit
    earthLimit := clampNat 50 1000 s.earthLimit
    insulationMin := clampNat 1 100 s.insulationMin
    berth := ⟨clampBerthSettings s.berth.b1, clampBerthSettings s.berth.b2, clampBerthSettings s.berth.b3,
              clampBerthSettings s.berth.b4, clampBerthSettings s.berth.b5, clampBerthSettings s.berth.b6⟩ }

/-- The value of a numeric setting. -/
def settingValue (s : Settings) : SettingName → Nat
  | .nativeLimit => s.nativeLimit
  | .reserve => s.reserve
  | .modulesInstalled => s.modulesInstalled
  | .eff => s.eff
  | .suspThreshold => s.suspThreshold
  | .bankSettle => s.bankSettle
  | .bankIdleStop => s.bankIdleStop
  | .contactLimit => s.contactLimit
  | .readyLimit => s.readyLimit
  | .syncLimit => s.syncLimit
  | .parallelLimit => s.parallelLimit
  | .returnParallelLimit => s.returnParallelLimit
  | .takeBackLimit => s.takeBackLimit
  | .slipLimit => s.slipLimit
  | .angleLimit => s.angleLimit
  | .voltageLimit => s.voltageLimit
  | .dwellN => s.dwellN
  | .closingTime => s.closingTime
  | .reverseLimit => s.reverseLimit
  | .reverseTime => s.reverseTime
  | .overdrawMargin => s.overdrawMargin
  | .overdrawLimit => s.overdrawLimit
  | .earthLimit => s.earthLimit
  | .insulationMin => s.insulationMin
  | .outletRating b => (s.berth.get b).outletRating

/-- The numeric settings before those of the berths, in the order of the record (Table 10-1). -/
def unitSettings : List SettingName :=
  [.nativeLimit, .reserve, .modulesInstalled, .eff, .suspThreshold, .bankSettle, .bankIdleStop, .contactLimit, .readyLimit,
   .syncLimit, .parallelLimit, .returnParallelLimit, .takeBackLimit, .slipLimit, .angleLimit, .voltageLimit, .dwellN,
   .closingTime, .reverseLimit, .reverseTime, .overdrawMargin, .overdrawLimit, .earthLimit, .insulationMin]

/-- The numeric settings in the order of the record (Table 10-1). -/
def settingNames : List SettingName := unitSettings ++ Berth.all.map .outletRating

/-- A numeric setting in its width (Table 10-1, column Bytes). -/
def settingField (n : SettingName) (v : Nat) : List Byte :=
  match n with
  | .nativeLimit | .reserve | .readyLimit | .syncLimit | .parallelLimit | .returnParallelLimit | .takeBackLimit | .angleLimit
  | .overdrawLimit | .earthLimit | .outletRating _ => natField v
  | _ => [BitVec.ofNat 8 v]

/-- Numeric settings one after another. -/
def settingFields (s : Settings) (ns : List SettingName) : List Byte := ns.flatMap fun n => settingField n (settingValue s n)

/-- One berth's group of the settings record (R202). -/
def berthSettingsBytes (s : BerthSettings) : List Byte :=
  natField s.outletRating ++ [vclassCode s.vclass, boolCode s.f60Allowed, boolCode s.openAllowed, detectionCode s.detection,
    tripSourceCode s.tripSource, groupCode s.group]

/-- The 83 bytes of the settings record, as APPLY carries it and READ_SETTINGS answers (R198, R202). -/
def settingsBytes (s : Settings) : List Byte :=
  settingFields s (unitSettings.take 2) ++ boolCode s.converterInstalled :: settingFields s (unitSettings.drop 2)
    ++ Berth.all.flatMap fun b => berthSettingsBytes (s.berth.get b)

/-- Each setting that clamping changed, with its applied value (R203). -/
def clampedValues (asked applied : Settings) : List (SettingName × Nat) :=
  (settingNames.filter fun n => settingValue asked n ≠ settingValue applied n).map fun n => (n, settingValue applied n)

/-- Some budget setting differs (R203, Table 10-1's column B). -/
def budgetDiffers (x y : Settings) : Bool :=
  x.nativeLimit != y.nativeLimit || x.reserve != y.reserve || x.modulesInstalled != y.modulesInstalled || x.eff != y.eff ||
    Berth.all.any fun b => (x.berth.get b).outletRating != (y.berth.get b).outletRating
      || (x.berth.get b).vclass != (y.berth.get b).vclass

/-- One field of a notice body after its number and its berth or module (R201, Table 9-4). -/
inductive NoticeField where
  | state (st : BState)
  | substate (st : BState)
  | grant (kva : Nat)
  | draw (kva : Nat)
  | seq (q : Option Nat)
  | cause (c : FaultCause)
  | verdict (v : Verdict)
  | testUnit (u : TestUnit)
  | earth (milliohm : Option Nat)
  | insulation (megohm : Option Nat)
  | index (i : Fin 4)
  | hops (n : Nat)
  | moduleState (st : MState)
  | strike (n : Nat)
  | counted (n : Nat)
  | suspended (mark : Bool)
  | bankState (st : BankState)
  | demand (n : Nat)
  | record (k : RecordKind)
  | startKind (k : StartKind)
  | defaulted (mark : Bool)
  | outcome (o : FillOutcome)
  | working (kva : Nat)
  | pendingMark (mark : Bool)
deriving DecidableEq, Repr

end Sys2Proof.Machine

namespace Sys2Proof.Config

open Sys2Proof.Machine

/-- The bytes of a query's data, but for the settings record: the spec lists what they carry and gives them no layout, so they are
free. DESIGN CHOICE (log 47). -/
opaque queryData : ReplyData → List Byte

/-- The bytes of one field of a notice: the spec gives the fields their order and no codes or widths, so they are free. DESIGN CHOICE
(log 47). -/
opaque noticeField : NoticeField → List Byte

end Sys2Proof.Config

namespace Sys2Proof.Machine

/-! ## Replies and notices on the line -/

/-- The data of an OK reply: nothing, the settings record with the write mark after it (R198), or a query's data. -/
def replyDataBytes : ReplyData → List Byte
  | .none => []
  | .settings d w => settingsBytes d ++ [boolCode w]
  | d => Config.queryData d

/-- The value or values of a CLAMPED reply, each in its own width (Table 9-3). -/
def appliedBytes : Applied → List Byte
  | .workingLimit k => natField k
  | .settings vs => vs.flatMap fun v => settingField v.1 v.2

/-- The body of a reply (Table 9-3). -/
def replyBody : Reply → List Byte
  | .ok k d => k :: replyDataBytes d
  | .accepted k => [k]
  | .clamped k v => k :: appliedBytes v
  | .refused k r => [k, reasonCode r]
  | .full k => [k]

/-- The number of a berth or a module in a notice. DESIGN CHOICE (log 47): the spec gives it no width, and it takes one byte, as in an
order. -/
def subjectByte (number : Nat) : List Byte := [BitVec.ofNat 8 number]

/-- The number of the berth or the module that a notice concerns (R201), in one byte by the model's choice (log 47). -/
def noticeSubject : Notice → List Byte
  | .berthState b _ _ | .grant b _ _ _ | .fault b _ | .testResult b _ | .releasePending b => subjectByte b.number
  | .module m _ _ _ _ => subjectByte m.number
  | .bank .. | .curtailDone _ | .storeDone _ | .storeFailed _ | .start .. | .settingsDefaulted => []

/-- Fields of a notice one after another. -/
def noticeFields (fs : List NoticeField) : List Byte := fs.flatMap Config.noticeField

/-- The fields of a result record, in the order of Table 3-4 (R82). -/
def resultFields (r : TestResult) : List NoticeField :=
  [.verdict r.verdict, .testUnit r.unit, .earth r.earth, .insulation r.insulation, .index r.index, .hops r.hops]

/-- An adopted berth in START: the berth, its adopted grant, the draw, and what became of it (R191). -/
def FillLine.bytes (l : FillLine) : List Byte :=
  subjectByte l.berth.number ++ noticeFields [.grant l.grant, .draw l.draw, .outcome l.outcome]

/-- What a notice carries after that, in the order of Table 9-4 and of the rules it cites. -/
def noticeRest : Notice → List Byte
  | .berthState _ st g => noticeFields [.state st, .substate st, .grant g]
  | .grant _ g d q => noticeFields [.grant g, .draw d, .seq q]
  | .fault _ c => noticeFields [.cause c]
  | .testResult _ r => noticeFields (resultFields r)
  | .module _ st strike n mark => noticeFields [.moduleState st, .strike strike, .counted n, .suspended mark]
  | .bank st d n => noticeFields [.bankState st, .demand d, .counted n]
  | .curtailDone k => natField k
  | .storeDone k => noticeFields [.record k]
  | .storeFailed k => noticeFields [.record k]
  | .start k d ls w p =>
    noticeFields [.startKind k, .defaulted d] ++ ls.flatMap FillLine.bytes ++ noticeFields [.working w, .pendingMark p]
  | .settingsDefaulted => []
  | .releasePending _ => []

/-- The body of a notice: its number, 2 bytes, the berth or module it concerns, its other contents (R201). -/
def noticeBody (n : NumberedNotice) : List Byte := natField n.number ++ noticeSubject n.notice ++ noticeRest n.notice

/-- A frame of the port on the line (Table 9-1): a reply under the tag of its order, a notice under tag 0 (R192, R201). -/
def PortFrame.bytes : PortFrame → List Byte
  | .reply r => portFrameBytes r.tag (replyCode r.reply) (replyBody r.reply)
  | .notice n => portFrameBytes 0 (noticeCode n.notice) (noticeBody n)

/-- What the port transmits, nothing while its line is idle (R199). -/
def SupervisoryPort.onLine (p : SupervisoryPort) : List Byte := p.sending.elim [] PortFrame.bytes

/-- What a channel transmits, nothing while its line is idle (R43, R46). -/
def Channel.onLine (c : Channel) : List Byte := c.sending.elim [] quayBytes

end Sys2Proof.Machine
end

