-- ==== Sys2Proof/Machine/Flags.lean ====
section
/-! DEFINITION. What can be read off the state: positions and presence (R4, R172), the judgement of reports (R139, R141), trips and
exposure (R168, R169), the conditions of CLEAR (R180), bank demand (R113), the sums and margins of the feeder budget (R88, R100),
and the fields of the Berth Record that mirror another block (R1). -/

namespace Sys2Proof.Machine

/-! ## One berth's part of each block -/

/-- A berth's Berth Unit. -/
def State.bu (s : State) (b : Berth) : BerthUnit := s.berths.get b

/-- A berth's Quay Link Channel. -/
def State.ch (s : State) (b : Berth) : Channel := s.channels.get b

/-- A berth's part of the Protection Block. -/
def State.pb (s : State) (b : Berth) : ProtBerth := s.protect.berth.get b

/-- A berth's wires. -/
def State.ln (s : State) (b : Berth) : BerthLines := s.lines.berth.get b

/-- The settings in force. -/
def State.set (s : State) : Settings := s.store.inForce

/-- A berth's settings in force. -/
def State.bset (s : State) (b : Berth) : BerthSettings := s.set.berth.get b

/-- A berth's nominal voltage (R7, R148). DESIGN CHOICE (log 10): by its voltage class setting. -/
def State.vn (s : State) (b : Berth) : Nat := (s.bset b).vclass.volts

/-! ## Positions and presence -/

/-- The breaker position of two feedback contacts (R172). -/
def BerthLines.breaker (l : BerthLines) : BreakerPos :=
  match l.breakerClosed, l.breakerOpen with
  | true, false => .closed
  | false, true => .opened
  | _, _ => .unknown

/-- The earthing switch position reported, none where the feedback shows no position or both (R177). -/
def BerthLines.switch (l : BerthLines) : Option SwitchPos :=
  match l.switchClosed, l.switchOpen with
  | true, false => some .closed
  | false, true => some .opened
  | _, _ => none

/-- The selector position reported, none where the feedback shows no position or both (R177). -/
def BerthLines.selector (l : BerthLines) : Option SClass :=
  match l.selector50, l.selector60 with
  | true, false => some .f50
  | false, true => some .f60
  | _, _ => none

/-- A berth's breaker position (R172). -/
def State.breaker (s : State) (b : Berth) : BreakerPos := (s.ln b).breaker

/-- A berth's earthing switch as reported. -/
def State.switch (s : State) (b : Berth) : Option SwitchPos := (s.ln b).switch

/-- A berth's selector as reported. -/
def State.selector (s : State) (b : Berth) : Option SClass := (s.ln b).selector

/-- Presence by a detection source (R4). -/
def presentBy : Detection → BerthLines → Bool
  | .pilot, l => l.pilotContinuous
  | .proximity, l => l.proximity
  | .both, l => l.pilotContinuous && l.proximity

/-- A plug is detected at the berth (R4). -/
def State.present (s : State) (b : Berth) : Bool := presentBy (s.bset b).detection (s.ln b)

/-- The supply class that selector feedback gives (R185): F60 where it reports F60, F50 otherwise. -/
def State.selectorClass (s : State) (b : Berth) : SClass :=
  match s.selector b with
  | some .f60 => .f60
  | _ => .f50

/-- The supply class the feeder budget and the bank take a berth at: the record's, and the selector's while the record has none
(R185). -/
def State.cls (s : State) (b : Berth) : SClass := ((s.bu b).sclass).getD (s.selectorClass b)

/-! ## Meter reports -/

/-- A side's frequency as measured: absent on a side below 10 % of Vn (R139). -/
def sideFrequency (vn volts : Nat) (f : Option Nat) : Option Nat := if 10 * volts < vn then none else f

/-- A report as the Berth Unit takes it, the frequency of a dead side absent (R139). -/
def takenReport (vn : Nat) (r : MeterReport) : MeterReport :=
  { r with supplyF := sideFrequency vn r.supplyV r.supplyF, cableF := sideFrequency vn r.cableV r.cableF }

/-- A measured frequency lies between 45,000 and 65,000 mHz; an absent one takes no part (R139). -/
def frequencyOk : Option Nat → Bool
  | none => true
  | some f => decide (45000 ≤ f) && decide (f ≤ 65000)

/-- A report is valid (R139). -/
def reportValid (vn : Nat) (r : MeterReport) : Bool :=
  r.validMark && frequencyOk (takenReport vn r).supplyF && frequencyOk (takenReport vn r).cableF

/-- A current report shows cable-side voltage below 10 % of Vn. -/
def State.cableDead (s : State) (b : Berth) : Bool :=
  match (s.bu b).report with
  | some r => decide (10 * r.cableV < s.vn b)
  | none => false

/-- A current report shows cable-side voltage at or above 90 % of Vn (R18). -/
def State.cableLive (s : State) (b : Berth) : Bool :=
  match (s.bu b).report with
  | some r => decide (9 * s.vn b ≤ 10 * r.cableV)
  | none => false

/-- A current report shows supply-side voltage below 10 % of Vn (R175). -/
def State.supplyDead (s : State) (b : Berth) : Bool :=
  match (s.bu b).report with
  | some r => decide (10 * r.supplyV < s.vn b)
  | none => false

/-- A current report shows shore power below the release threshold (R161). -/
def State.belowThreshold (s : State) (b : Berth) : Bool :=
  match (s.bu b).report, s.transfer.threshold.get b with
  | some r, some t => decide (r.power < t)
  | _, _ => false

/-! ## Trips -/

/-- A group trip bus (R168). -/
def State.bus (s : State) : Group → Bool
  | .a => s.lines.busA
  | .b => s.lines.busB

/-- A group's backup holder list (R175). -/
def State.holders (s : State) : Group → List Holder
  | .a => s.protect.holdersA
  | .b => s.protect.holdersB

/-- A group's backup trip output is asserted (Table 7-1). -/
def State.output (s : State) (g : Group) : Bool := !(s.holders g).isEmpty

/-- The trip a berth is under, TRIP_OWN where both selected inputs stand; none where none does (R168, R169). -/
def State.selectedTrip (s : State) (b : Berth) : Option FaultCause :=
  let t := (s.bset b).tripSource
  if t ≠ .group ∧ (s.ln b).ownTrip then some .tripOwn
  else if t ≠ .own ∧ s.bus (s.bset b).group then some .tripGroup
  else none

/-- A close command to the berth's breaker is outstanding (R20). -/
def State.closeOutstanding (s : State) (b : Berth) : Bool := (s.bu b).breakerCmd == some .close

/-- A berth is exposed (R169). -/
def State.exposed (s : State) (b : Berth) : Bool :=
  (s.breaker b == .closed || s.closeOutstanding b) && (s.bu b).st != .faulted

/-- A state from TEST to RETURN, or ADOPTED: those in which a pilot break and E-stop fault the berth (R167, R170). -/
def BState.connected : BState → Bool
  | .test _ | .queued | .ready _ | .sync _ | .parallel | .onShore _ | .returning _ | .adopted => true
  | _ => false

/-- A state with the breaker closed on the ship (Table 1-2). -/
def BState.supplied : BState → Bool
  | .parallel | .onShore _ | .returning _ | .adopted => true
  | _ => false

/-- The states in which the selector is watched (R177): READY after its selector step, and SYNC to RETURN, ADOPTED. -/
def BerthUnit.selectorWatched (u : BerthUnit) : Bool :=
  match u.st with
  | .ready .preparing => u.timers.selector.isNone
  | .ready _ | .sync _ | .parallel | .onShore _ | .returning _ | .adopted => true
  | _ => false

/-- A recorded cause is present (Table 7-3). DESIGN CHOICE (log 56): the group is that of the setting in force, also where APPLY has
changed it since the cause was recorded. -/
def State.causePresent (s : State) (b : Berth) : FaultCause → Bool
  | .pilotOpen => !(s.ln b).pilotContinuous
  | .tripOwn => (s.ln b).ownTrip
  | .tripGroup => s.bus (s.bset b).group
  | .estop => s.lines.estop
  | .breakerClose | .breakerOpen => s.breaker b != .opened
  | .backupTrip => s.output (s.bset b).group
  | .earthSwitch => s.switch b != some .closed
  | .selector => (s.selector b).isNone
  | .cableState => !s.cableDead b
  | _ => false

/-- The conditions on which CLEAR and a REINIT in FAULTED are taken (R180). -/
def State.clearable (s : State) (b : Berth) : Bool :=
  !s.lines.estop && s.breaker b == .opened &&
    match (s.bu b).lastFault with
    | some c => !s.causePresent b c
    | none => true

/-! ## Mirrored fields of the Berth Record -/

/-- The permit field (Table 1-1). -/
def State.permit (s : State) (b : Berth) : PermitField :=
  if s.transfer.holder = some b then .held
  else if s.transfer.line.any (fun e => e.berth == b) then .waiting
  else .none

/-- A berth's Admission Queue entry. -/
def State.entry (s : State) (b : Berth) : Option AdmEntry := s.budget.queue.find? (fun e => e.berth == b)

/-- The queue entry field (Table 1-1). -/
def State.queueEntry (s : State) (b : Berth) : Option EntryKind := (s.entry b).map AdmEntry.kind

/-- The pass-over count field, which mirrors the ADMIT entry (Table 1-1). -/
def State.passOver (s : State) (b : Berth) : Nat :=
  match s.entry b with
  | some e => if e.kind = .admission then e.passOver else 0
  | none => 0

/-- The berth has a TOPUP entry. -/
def State.topup (s : State) (b : Berth) : Bool := s.queueEntry b == some .topup

/-! ## Converter bank -/

/-- The berth counts toward bank demand (R113). -/
def State.needsBank (s : State) (b : Berth) : Bool :=
  ((s.bu b).grant != 0 && s.cls b == .f60) || (s.breaker b == .closed && s.selector b == some .f60)

/-- The number of berths of which a condition holds. -/
def countBerths (p : Berth → Bool) : Nat := (Berth.all.filter p).length

/-- Bank demand as the facts stand (R113). -/
def State.demandNow (s : State) : Nat := countBerths s.needsBank

/-- The module is installed by the settings (R119). -/
def moduleInstalled (set : Settings) (m : Module) : Bool := set.converterInstalled && decide (m.number ≤ set.modulesInstalled)

/-- A module state contributes to converter capacity (R119). -/
def MState.counted : MState → Bool
  | .inService | .watch | .restarting _ => true
  | _ => false

/-- The module is under proof test. -/
def MState.isProofing : MState → Bool
  | .proofing _ => true
  | _ => false

/-- The history value of a module state (R132). -/
def MState.history : MState → History
  | .retired => .retired
  | .proofPending | .proofing _ => .proofPending
  | _ => .normal

/-- The number of modules of which a condition holds. -/
def countModules (p : Module → Bool) : Nat := (Module.all.filter p).length

/-- Counted modules of a Module Table (R119). -/
def countedOf (ms : PerModule ModuleRec) : Nat := countModules fun m => (ms.get m).st.counted

/-- The module history of a Module Table (R132). -/
def historyOf (ms : PerModule ModuleRec) : PerModule History := ms.map fun r => r.st.history

/-! ## Feeder budget -/

/-- The sum of a quantity over the berths. -/
def sumBerths (f : Berth → Nat) : Nat := f .b1 + f .b2 + f .b3 + f .b4 + f .b5 + f .b6

/-- The sum of draws. -/
def State.drawSum (s : State) : Nat := sumBerths fun b => (s.bu b).draw

/-- The sum of draws of every berth but one. -/
def State.otherDraws (s : State) (b : Berth) : Nat := sumBerths fun c => if c = b then 0 else (s.bu c).draw

/-- The grant of a berth supplied at F60, 0 of another. -/
def State.grant60 (s : State) (b : Berth) : Nat := if s.cls b = .f60 then (s.bu b).grant else 0

/-- The sum of the grants of F60 berths. -/
def State.sum60 (s : State) : Nat := sumBerths s.grant60

/-- The sum of the grants of F60 berths but one. -/
def State.other60 (s : State) (b : Berth) : Nat := sumBerths fun c => if c = b then 0 else s.grant60 c

/-- Converter capacity (R123). -/
def State.capacity (s : State) : Nat := Config.moduleKva * s.bank.counted

/-- The headroom H of a berth (R88). -/
def State.headroom (s : State) (b : Berth) : Int := (s.budget.working : Int) - s.set.reserve - s.otherDraws b

/-- The converter margin C of a berth (R88). -/
def State.margin (s : State) (b : Berth) : Int := (s.capacity : Int) - s.other60 b

/-- The terminal headroom (R88). -/
def State.terminalHeadroom (s : State) : Int := (s.budget.working : Int) - s.set.reserve - s.drawSum

/-- Converter capacity less the grants of every F60 berth. -/
def State.terminalMargin (s : State) : Int := (s.capacity : Int) - s.sum60

/-- A berth is IRREDUCIBLE: in LINK_HOLD, in RETURN or holding the adopted mark (R91). -/
def BerthUnit.irreducible (u : BerthUnit) : Bool :=
  u.adoptedMark ||
    match u.st with
    | .onShore .linkHold | .returning _ => true
    | _ => false

/-- What a berth adds to the floor (R100). -/
def State.floorPart (s : State) (b : Berth) : Nat :=
  let u := s.bu b
  if u.grant = 0 then 0
  else if u.irreducible then u.draw
  else drawOf (s.cls b) s.set.eff (u.minEff.getD 0)

/-- The floor (R100). -/
def State.floor (s : State) : Nat := sumBerths s.floorPart

/-- A berth's grant sequence number, 0 where absent. -/
def State.seqOf (s : State) (b : Berth) : Nat := (s.bu b).seq.getD 0

/-- A berth put in its place in a list that falls by a key. -/
def insertFalling (key : Berth → Nat) (b : Berth) : List Berth → List Berth
  | [] => [b]
  | c :: cs => if key c < key b then b :: c :: cs else c :: insertFalling key b cs

/-- Berths ordered by a key, highest first. -/
def fallingBy (key : Berth → Nat) : List Berth → List Berth
  | [] => []
  | b :: bs => insertFalling key b (fallingBy key bs)

/-- The berths of which a condition holds, highest grant sequence number first (R103, R108, R109). -/
def State.bySeq (s : State) (p : Berth → Bool) : List Berth := fallingBy s.seqOf (Berth.all.filter p)

/-- The settings record that changes a budget setting is being written or waits (R203). -/
def StoreWrite.holdsScans : StoreWrite → Bool
  | .settings _ b => b
  | _ => false

/-- The admission scans are held: by a settings write in hand (R203), or while a start is in progress (R83). -/
def State.scansHeld (s : State) : Bool :=
  s.start.isSome || (s.store.running.any StoreWrite.holdsScans) || s.store.waiting.any StoreWrite.holdsScans

/-- A store write is running or waiting (R204). -/
def State.writeInHand (s : State) : Bool := s.store.running.isSome || !s.store.waiting.isEmpty

/-- A berth in ADOPTED that is not answered (R187). -/
def State.unanswered (s : State) (b : Berth) : Bool := (s.bu b).st == .adopted && !(s.bu b).answered

end Sys2Proof.Machine
end

