-- ==== Sys2Proof/Machine/Ops.lean ====
section
/-! DEFINITION. The named operations every block uses: replacing one part of the state, timers, notices and replies at the port
(R199, R200), frames at a quay channel (R46), handing a record to the Settings Store (R204), the change of a berth's state (R3),
and the commands to breaker, earthing switch and selector with their procedures (R7, R173, R177). -/

namespace Sys2Proof.Machine

/-! ## Replacing one part of the state -/

/-- Replaces one Berth Unit. -/
def State.mapBu (s : State) (b : Berth) (f : BerthUnit → BerthUnit) : State := { s with berths := s.berths.set b (f (s.bu b)) }

/-- Replaces the timers of one Berth Unit. -/
def State.mapTimers (s : State) (b : Berth) (f : BerthTimers → BerthTimers) : State :=
  s.mapBu b fun u => { u with timers := f u.timers }

/-- Replaces one Quay Link Channel. -/
def State.mapCh (s : State) (b : Berth) (f : Channel → Channel) : State := { s with channels := s.channels.set b (f (s.ch b)) }

/-- Replaces one berth's part of the Protection Block. -/
def State.mapPb (s : State) (b : Berth) (f : ProtBerth → ProtBerth) : State :=
  { s with protect := { s.protect with berth := s.protect.berth.set b (f (s.pb b)) } }

/-- Replaces one berth's wires. -/
def State.mapLn (s : State) (b : Berth) (f : BerthLines → BerthLines) : State :=
  { s with lines := { s.lines with berth := s.lines.berth.set b (f (s.ln b)) } }

/-- Replaces the Feeder Budget Unit. -/
def State.mapBudget (s : State) (f : FeederBudget → FeederBudget) : State := { s with budget := f s.budget }

/-- Replaces the Converter Bank Manager. -/
def State.mapBank (s : State) (f : ConverterBank → ConverterBank) : State := { s with bank := f s.bank }

/-- Replaces one module record. -/
def State.mapModule (s : State) (m : Module) (f : ModuleRec → ModuleRec) : State :=
  { s with bank := { s.bank with modules := s.bank.modules.set m (f (s.bank.modules.get m)) } }

/-- Replaces the Transfer Unit. -/
def State.mapTransfer (s : State) (f : TransferUnit → TransferUnit) : State := { s with transfer := f s.transfer }

/-- Replaces the Test Dispatcher. -/
def State.mapTests (s : State) (f : TestDispatcher → TestDispatcher) : State := { s with tests := f s.tests }

/-- A test unit's record. -/
def State.unit (s : State) : TestUnit → UnitRec
  | .a => s.tests.unitA
  | .b => s.tests.unitB

/-- Replaces one test unit's record. -/
def State.setUnit (s : State) (u : TestUnit) (r : UnitRec) : State :=
  match u with
  | .a => { s with tests := { s.tests with unitA := r } }
  | .b => { s with tests := { s.tests with unitB := r } }

/-- Replaces the Supervisory Link Port. -/
def State.mapPort (s : State) (f : SupervisoryPort → SupervisoryPort) : State := { s with port := f s.port }

/-- Replaces the Settings Store. -/
def State.mapStore (s : State) (f : SettingsStore → SettingsStore) : State := { s with store := f s.store }

/-- The same act at each berth in number order. -/
def eachBerth (f : Berth → State → State) (s : State) : State := f .b6 (f .b5 (f .b4 (f .b3 (f .b2 (f .b1 s)))))

/-! ## Events and timers -/

/-- The moment a timer of this length started now is due. -/
def State.after (s : State) (ms : Nat) : Timer := some (s.now + ms)

/-- The expiry of a timer: nothing where it does not run, else the act, with the clock at the moment it was due or later (log 3). -/
def State.expire (s : State) (t : Timer) (f : State → State) : State :=
  match t with
  | none => s
  | some due => f { s with now := max s.now due }

/-- The time left on a timer. -/
def remaining (now : Nat) : Timer → Timer
  | none => none
  | some due => some (due - now)

/-! ## The Supervisory Link Port -/

/-- The transmitter starts its next frame if it is idle: a reply before a notice, each in the order formed (R199). -/
def SupervisoryPort.kick (p : SupervisoryPort) : SupervisoryPort :=
  match p.sending with
  | some _ => p
  | none =>
    match p.replies with
    | r :: rest => { p with sending := some (.reply r), replies := rest }
    | [] =>
      match p.notices with
      | n :: rest => { p with sending := some (.notice n), notices := rest }
      | [] => p

/-- A notice joins the Notice Queue under its number, or sets the overflow flag where the queue is full (R200). -/
def SupervisoryPort.enqueue (p : SupervisoryPort) (n : Notice) : SupervisoryPort :=
  let number := (p.counter + 1) % 65536
  if Config.noticeQueueMax ≤ p.notices.length then { p with counter := number, overflow := true }
  else { p with counter := number, notices := p.notices ++ [{ number := number, notice := n }] }

/-- A block posts a notice (R200). -/
def State.post (s : State) (n : Notice) : State := s.mapPort fun p => (p.enqueue n).kick

/-- A reply is formed and waits for the transmitter (R195, R199). -/
def State.formReply (s : State) (r : ReplyFrame) : State := s.mapPort fun p => { p with replies := p.replies ++ [r] }.kick

/-! ## Quay transmit queues -/

/-- SHORE_STATE, which the queue keeps at most once (R46). -/
def QuayMsg.isShoreState : QuayMsg → Bool
  | .shoreState _ _ => true
  | _ => false

/-- MATCH, which the queue keeps at most once (R46). -/
def QuayMsg.isMatch : QuayMsg → Bool
  | .match_ _ _ _ _ => true
  | _ => false

/-- The queued frame whose content the given one replaces (R46). -/
def QuayMsg.replaces (m q : QuayMsg) : Bool := (m.isShoreState && q.isShoreState) || (m.isMatch && q.isMatch)

/-- A frame joins the transmit queue (R46). -/
def joinQueue (m : QuayMsg) (q : List QuayMsg) : List QuayMsg :=
  if q.any m.replaces then q.map fun x => if m.replaces x then m else x
  else (if Config.quayQueueMax ≤ q.length then q.drop 1 else q) ++ [m]

/-- The channel starts the frame at the head of its queue if the line is free (R42, R46). -/
def Channel.kick (c : Channel) : Channel :=
  match c.sending, c.queue with
  | none, m :: rest => { c with sending := some m, queue := rest }
  | _, _ => c

/-- A frame is given to a berth's channel (R46). -/
def State.send (s : State) (b : Berth) (m : QuayMsg) : State := s.mapCh b fun c => { c with queue := joinQueue m c.queue }.kick

/-- GRANT as the record stands (R61). -/
def State.sendGrant (s : State) (b : Berth) : State :=
  s.send b (.grant (s.bu b).grant (s.bu b).minEff (s.bu b).fullEff (s.topup b))

/-- GRANT with a grant of 0 (R61). -/
def State.sendGrantZero (s : State) (b : Berth) : State := s.send b (.grant 0 (s.bu b).minEff (s.bu b).fullEff false)

/-- A channel restart (R49): the frame being transmitted is completed. -/
def Channel.restart (c : Channel) : Channel := { Channel.restarted with sending := c.sending }

/-- Sends CALL, starts the call repeat timer, and starts the shore beacon timer at the first CALL after a restart (R51, R52). -/
def State.sendCall (s : State) (b : Berth) (resume : Bool) : State :=
  (s.send b (.call b.number resume)).mapCh b fun c =>
    { c with callRepeat := s.after Config.callRepeatMs,
             shoreBeacon := match c.shoreBeacon with
               | none => s.after Config.beaconMs
               | some t => some t }

/-! ## Handing a record to the Settings Store (R204) -/

/-- The kind of a record handed over. -/
def StoreWrite.kind : StoreWrite → RecordKind
  | .settings _ _ => .settings
  | .history _ => .moduleHistory
  | .target _ => .curtailTarget

/-- A waiting copy of the same kind is replaced in its place; otherwise the record waits last. -/
def joinWaiting (w : StoreWrite) (ws : List StoreWrite) : List StoreWrite :=
  if ws.any (fun x => x.kind == w.kind) then ws.map fun x => if x.kind == w.kind then w else x else ws ++ [w]

/-- A record is handed over: written at once where no write runs, else it waits. -/
def State.handOver (s : State) (w : StoreWrite) : State :=
  match s.store.running with
  | none => s.mapStore fun t => { t with running := some w, writeLimit := s.after Config.writeMs }
  | some _ => s.mapStore fun t => { t with waiting := joinWaiting w t.waiting }

/-- The module history as it stands is handed over (R132). -/
def State.handHistory (s : State) : State := s.handOver (.history (historyOf s.bank.modules))

/-! ## A berth's state and grant -/

/-- The timers that go on running in a state (R6 step 5): each belongs to the states that start it, those of the earthing
procedure to the procedure. -/
def BerthTimers.keptIn (st : BState) (e : EarthProc) (t : BerthTimers) : BerthTimers :=
  { quiet := if st = .probe .quiet then t.quiet else .none
    contact := if st = .probe .calling ∨ st = .adopted then t.contact else .none
    retest := if st = .test .retestDelay then t.retest else .none
    selector := if st = .ready .preparing then t.selector else .none
    earthSwitch := if st = .ready .preparing ∨ e = .closing then t.earthSwitch else .none
    discharge := t.discharge
    cable := if st = .ready .cableCheck ∨ st = .ready .openClose then t.cable else .none
    ready := match st with
      | .ready .openClose => .none
      | .ready _ => t.ready
      | _ => .none
    answer := if st = .onShore .supplied then t.answer else .none
    takeBack := match st with
      | .returning _ => t.takeBack
      | _ => .none
    freshness := t.freshness }

/-- The earthing switch command that goes on standing in a state: the open command of PREPARING (R16) and of a test (R70), and the
close command of a test (R74) and of a running earthing procedure (R7; log 31). DESIGN CHOICE (log 69): feedback that comes after the
command is dropped confirms no position. -/
def switchKept (st : BState) (e : EarthProc) (c : Option SwitchPos) : Option SwitchPos :=
  match st, c with
  | .test .testing, c => c
  | .ready .preparing, some .opened => c
  | _, some .closed => if e = .closing then c else none
  | _, _ => none

/-- What a state keeps of the marks and commands bound to one state: a held UNLOADED to PARALLEL (R24), an accepted resume answer to
ADOPTED (R187), the selector command to PREPARING (R15). -/
def BerthUnit.inState (st : BState) (u : BerthUnit) : BerthUnit :=
  { u with st := st, heldUnloaded := u.heldUnloaded && st == .parallel, answered := u.answered && st == .adopted,
           switchCmd := switchKept st u.earthing u.switchCmd,
           selectorCmd := if st = .ready .preparing then u.selectorCmd else none,
           timers := u.timers.keptIn st u.earthing }

/-- CALL is repeated in CALLING, and in ADOPTED for the resume answer (R52). -/
def BState.repeatsCall : BState → Bool
  | .probe .calling | .adopted => true
  | _ => false

/-- A state of RETURN (Table 6-4). -/
def BState.isReturning : BState → Bool
  | .returning _ => true
  | _ => false

/-- A state of ON_SHORE. -/
def BState.isOnShore : BState → Bool
  | .onShore _ => true
  | _ => false

/-- A berth takes a state without a notice: its timers, the call repeat (R52), the release threshold (R158) and the overdraw watch
(R178) end with the state they belong to. The disagreement timers of R177 run on (log 32). -/
def State.takeState (s : State) (b : Berth) (st : BState) : State :=
  let s := s.mapBu b (BerthUnit.inState st)
  let s := s.mapCh b fun c => { c with callRepeat := if st.repeatsCall then c.callRepeat else none }
  let s := s.mapTransfer fun t => { t with threshold := if st.isReturning then t.threshold else t.threshold.set b none }
  s.mapPb b fun p => { p with overdraw := if st.isOnShore then p.overdraw else none }

/-- A change of state or substate, with its BERTH_STATE notice (R3). -/
def State.setState (s : State) (b : Berth) (st : BState) : State :=
  if (s.bu b).st = st then s else (s.takeState b st).post (.berthState b st (s.bu b).grant)

/-- A berth's grant, draw and grant sequence number. -/
def State.grantKey (s : State) (b : Berth) : Nat × Nat × Option Nat := ((s.bu b).grant, (s.bu b).draw, (s.bu b).seq)

/-! ## Events -/

/-- A notice that is posted once the changes of state of the event have been reported (R3; log 19). -/
def State.owe (s : State) (n : Notice) : State := s.mapPort fun p => { p with owed := p.owed ++ [n] }

/-- The notices an event has come to owe are posted in the order of their causes (R3). -/
def State.payNotices (s before : State) : State :=
  (s.port.owed.drop before.port.owed.length).foldl State.post (s.mapPort fun p => { p with owed := before.port.owed })

/-- A scan as an event leaves it to run, on the entries up to a join number and the margins as they stand (R92). -/
def State.scanUpto (s : State) (upto : Nat) : ScanStart :=
  { upto := upto, headroom := s.terminalHeadroom, margin := s.terminalMargin }

/-- A started scan waits last, unless one that sees the same does (R92; log 22). -/
def joinScan (scans : List ScanStart) (k : ScanStart) : List ScanStart := if scans.getLast? = some k then scans else scans ++ [k]

/-- The scans an event has started wait, on the queue and margins as it has left them (R92). -/
def State.startWanted (s before : State) : State :=
  s.mapBudget fun f =>
    { f with
      scans := ((f.wanted.drop before.budget.wanted.length).map fun n => s.scanUpto (n.getD f.joinCounter)).foldl joinScan f.scans
      wanted := before.budget.wanted }

/-- An event is over: what it owes is posted, and the scans it has started wait. -/
def State.endEvent (s before : State) : State := (s.startWanted before).payNotices before

/-- An event of a unit under supply; without supply the unit acts on nothing (DESIGN CHOICE, log 4). -/
def State.event (s : State) (f : State → State) : State := if s.powered then (f s).endEvent s else s

/-! ## Breaker commands (R20, R173) -/

/-- An open command finds nothing to open: the position is OPEN and no close command is withdrawn (R173; log 11). -/
def State.standsOpen (s : State) (b : Berth) : Bool := s.breaker b == .opened && !s.closeOutstanding b

/-- The breaker is commanded open, an outstanding close withdrawn with its supervision. Open supervision starts unless it runs, or the
position is already OPEN and no close was withdrawn (R20, R169, R173; log 11). -/
def State.openBreaker (s : State) (b : Berth) : State :=
  let idle := s.standsOpen b
  let s := s.mapBu b fun u => { u with breakerCmd := if idle then u.breakerCmd else some .opening }
  s.mapPb b fun p =>
    { p with closeSup := none, openSup := if idle || p.openSup.isSome then p.openSup else s.after Config.supervisionMs }

/-- An outstanding close command is withdrawn and the breaker commanded open (R20). -/
def State.withdrawClose (s : State) (b : Berth) : State := if s.closeOutstanding b then s.openBreaker b else s

/-- The open supervision of an opening that hardware has begun (R167). -/
def State.superviseOpening (s : State) (b : Berth) : State :=
  if s.breaker b = .opened ∨ (s.pb b).openSup.isSome then s
  else s.mapPb b fun p => { p with openSup := s.after Config.supervisionMs }

/-! ## Earthing switch and the earthing procedure (R7, R177) -/

/-- The earthing switch is commanded to move: its confirmed position is absent until the move ends (R177). -/
def State.moveSwitch (s : State) (b : Berth) (p : SwitchPos) : State :=
  (s.mapBu b fun u => { u with switchCmd := some p }).mapPb b fun q => { q with switchConfirmed := none, switchDisagree := none }

/-- The Berth Unit's own command to the switch, with its limit (R7, R16). -/
def State.commandSwitch (s : State) (b : Berth) (p : SwitchPos) : State :=
  (s.moveSwitch b p).mapTimers b fun t => { t with earthSwitch := s.after Config.switchMs }

/-- The earthing procedure ends or is cancelled, and with it a close command of its own that still stands (R7). -/
def State.endEarthing (s : State) (b : Berth) : State :=
  s.mapBu b fun u =>
    { u with earthing := .idle,
             switchCmd := if u.earthing = .closing then none else u.switchCmd,
             timers := { u.timers with discharge := none,
                                       earthSwitch := if u.earthing = .closing then none else u.timers.earthSwitch } }

/-- Step 1 of the earthing procedure: with the breaker reported open and the cable shown dead the discharge interval starts
(R7, R141). -/
def State.checkEarthing (s : State) (b : Berth) : State :=
  if (s.bu b).earthing = .waiting ∧ s.breaker b = .opened ∧ s.cableDead b then
    s.mapBu b fun u => { u with earthing := .discharging, timers := { u.timers with discharge := s.after Config.dischargeMs } }
  else s

/-- The earthing procedure is started, and ends at once where the switch is reported closed; one that runs goes on (R7). -/
def State.startEarthing (s : State) (b : Berth) : State :=
  if s.switch b = some .closed then s.endEarthing b
  else if (s.bu b).earthing ≠ .idle then s
  else (s.mapBu b fun u => { u with earthing := .waiting }).checkEarthing b

/-! ## PROBE and TEST_WAIT to CALLING -/

/-- QUIET ends when its timer has expired, the earthing switch is reported closed and E-stop is inactive (R10). -/
def State.checkQuiet (s : State) (b : Berth) : State :=
  if (s.bu b).st = .probe .quiet ∧ (s.bu b).quietDone ∧ s.switch b = some .closed ∧ !s.lines.estop then
    let s := s.setState b (.probe .calling)
    let s := s.mapTimers b fun t => { t with contact := s.after (s.set.contactLimit * 1000) }
    s.sendCall b false
  else s

/-- The berth begins QUIET with its timer (R10). -/
def State.beginQuiet (s : State) (b : Berth) : State :=
  let s := s.setState b (.probe .quiet)
  s.mapBu b fun u => { u with quietDone := false, timers := { u.timers with quiet := s.after Config.quietMs } }

/-! ## AWAIT_SHIP -/

/-- Entry to AWAIT_SHIP from PREPARING or WAIT_BANK sends GRANT (R16). -/
def State.awaitShip (s : State) (b : Berth) : State :=
  ((s.setState b (.ready .awaitShip)).sendGrant b).mapBu b fun u => { u with grantSent := true }

end Sys2Proof.Machine
end

