-- ==== Sys2Proof/Machine/Bank.lean ====
section
/-! DEFINITION. The Converter Bank Manager: the proof list and the start of a proof test (R125, R126, R128), bank states and what
entry to each does (R114 to R118), and bank demand (R113). -/

namespace Sys2Proof.Machine

/-- The MODULE notice of a module as it stands (R136). -/
def State.postModule (s : State) (m : Module) : State :=
  let r := s.bank.modules.get m
  s.post (.module m r.st r.strike s.bank.counted s.bank.suspended)

/-- Some module is under proof test. -/
def ConverterBank.proofing (k : ConverterBank) : Bool := Module.all.any fun m => (k.modules.get m).st.isProofing

/-- A module joins the proof list at its tail, unless it is in the list or under test (R125). -/
def ConverterBank.joinProof (k : ConverterBank) (m : Module) : ConverterBank :=
  if k.proofList.contains m || (k.modules.get m).st.isProofing then k else { k with proofList := k.proofList ++ [m] }

/-- The bank is RUNNING or IDLE, no module is under test and the proof list is not empty: a proof test may begin (R126). -/
def ConverterBank.mayProve (k : ConverterBank) : Bool := (k.st == .running || k.st == .idle) && !k.proofing

/-- A proof test begins where it may: the head of the list enters PROOFING (R126). -/
def State.beginProof (s : State) : State :=
  match s.bank.mayProve, s.bank.proofList with
  | true, m :: rest =>
    let before := historyOf s.bank.modules
    let s := s.mapBank fun k => { k with proofList := rest }
    let s := s.mapModule m fun _ =>
      { st := .proofing s.now, strike := 0, restartLimit := none, proofLimit := s.after Config.proofMs, cmd := .proofTest }
    let s := s.postModule m
    if historyOf s.bank.modules = before then s else s.handHistory
  | _, _ => s

/-- The automatic proof round: every PROOF_PENDING module joins the proof list in module number order (R128). -/
def ConverterBank.proofRound (k : ConverterBank) : ConverterBank :=
  (Module.all.filter fun m => (k.modules.get m).st == .proofPending).foldl ConverterBank.joinProof k

/-- The bank's timers and mark on entry to a state (R114 to R117). DESIGN CHOICE (log 74): entry to every state clears the stop-due mark,
STOPPED by that mark too. -/
def ConverterBank.inState (k : ConverterBank) (set : Settings) (now : Nat) (st : BankState) : ConverterBank :=
  { k with
    st := st
    settle := if st = .starting then some (now + set.bankSettle * 1000) else none
    idleStop := if st = .idle then some (now + set.bankIdleStop * 60000) else none
    stopDue := false }

/-- What entry to a bank state commands its modules: in STOPPED every module to stop (R114), in STARTING every counted module to
run (R115). -/
def ModuleRec.commandedIn (st : BankState) (r : ModuleRec) : ModuleRec :=
  match st with
  | .stopped => { r with cmd := .stop }
  | .starting => if r.st.counted then { r with cmd := .run } else r
  | _ => r

/-- The report of RUNNING takes an F60 berth from WAIT_BANK to AWAIT_SHIP (R16, R118). -/
def reportRunning (b : Berth) (s : State) : State :=
  if (s.bu b).st = .ready .waitBank ∧ s.cls b = .f60 then s.awaitShip b else s

/-- A change of bank state: the BANK notice, the report to the Berth Units (R118), then what entry starts: the proof round in IDLE
(R117) and a waiting proof test (R126). -/
def State.enterBank (s : State) (st : BankState) : State :=
  let s := s.mapBank fun k => { k.inState s.set s.now st with modules := k.modules.map (ModuleRec.commandedIn st) }
  let s := s.post (.bank st s.bank.demand s.bank.counted)
  let s := if st = .running then eachBerth reportRunning s else s
  let s := if st = .idle then s.mapBank ConverterBank.proofRound else s
  s.beginProof

/-- The recovery start: a STOPPED bank with no counted module and a module PROOF_PENDING (R114). -/
def State.recover (s : State) : State :=
  if s.bank.st = .stopped ∧ s.bank.counted = 0 ∧ Module.all.any (fun m => (s.bank.modules.get m).st == .proofPending) then
    s.enterBank .starting
  else s

/-- The bank enters STOPPED, and starts again at once where the recovery start's conditions then hold (R114, R117). -/
def State.stopBank (s : State) : State := (s.enterBank .stopped).recover

/-- Bank demand is recomputed; a change across 0 is an event at the bank (R113, R114 to R117). -/
def State.updateDemand (s : State) : State :=
  let before := s.bank.demand
  let s := s.mapBank fun k => { k with demand := s.demandNow }
  if before = 0 ∧ s.bank.demand ≠ 0 then
    match s.bank.st with
    | .stopped => s.enterBank .starting
    | .idle => s.enterBank .running
    | _ => s
  else if before ≠ 0 ∧ s.bank.demand = 0 ∧ s.bank.st = .running then s.enterBank .idle
  else s

end Sys2Proof.Machine
end

