-- ==== Sys2Proof/Machine/Budget.lean ====
section
/-! DEFINITION. The Feeder Budget Unit: grant sequence numbers (R89), the Admission Queue's joins and updates (R90, R91), a change
of one grant and how the ship learns of it (R8), reductions (R103, R108), the floor's stepping down (R104), returns (R105) and
curtailment (R101, R102). -/

namespace Sys2Proof.Machine

/-! ## Scans and the queue -/

/-- A scan as it would start now: the queue and the margins as they stand (R92). -/
def State.scanNow (s : State) : ScanStart := s.scanUpto s.budget.joinCounter

/-- An admission scan is started: it runs as a scan of its own, on the queue and margins as this event will have left them (R92;
log 22). -/
def State.startScan (s : State) : State := s.mapBudget fun f => { f with wanted := f.wanted ++ [none] }

/-- The scans this event has started so far do not see the entries that join from here on (R99). -/
def State.boundScans (s : State) : State :=
  s.mapBudget fun f => { f with wanted := f.wanted.map fun n => some (n.getD f.joinCounter) }

/-- The queue's entries numbered 1 and on in queue order (R90). -/
def numberEntries : Nat → List AdmEntry → List AdmEntry
  | _, [] => []
  | n, e :: es => { e with join := n } :: numberEntries (n + 1) es

/-- The join number that is the last up to this one once the entries are renumbered. -/
def renumbered (q : List AdmEntry) (upto : Nat) : Nat := (q.filter fun e => decide (e.join ≤ upto)).length

/-- At the join counter's end the entries are renumbered first (R90), and a started scan goes on seeing the entries it saw. -/
def FeederBudget.renumberJoins (f : FeederBudget) : FeederBudget :=
  if Config.counterMax ≤ f.joinCounter then
    { f with queue := numberEntries 1 f.queue, joinCounter := f.queue.length,
             scans := f.scans.map fun k => { k with upto := renumbered f.queue k.upto },
             wanted := f.wanted.map (Option.map (renumbered f.queue)) }
  else f

/-- An entry joins at the tail under the next join number (R90). -/
def FeederBudget.join (f : FeederBudget) (b : Berth) (k : EntryKind) (sought minimum : Nat) : FeederBudget :=
  let f := f.renumberJoins
  { f with joinCounter := f.joinCounter + 1,
           queue := f.queue ++ [{ berth := b, kind := k, sought := sought, minimum := minimum, join := f.joinCounter + 1,
                                  passOver := 0 }] }

/-- An entry joins and starts a scan; a berth that has an entry gains none (R91, R92). -/
def State.joinEntry (s : State) (b : Berth) (k : EntryKind) (sought minimum : Nat) : State :=
  match s.entry b with
  | some _ => s
  | none => (s.mapBudget fun f => f.join b k sought minimum).startScan

/-- The berth's entry is removed wherever it stands (R91). -/
def State.removeEntry (s : State) (b : Berth) : State :=
  s.mapBudget fun f => { f with queue := f.queue.filter fun e => e.berth != b }

/-- The berth's entry is changed in place (R90). -/
def State.updateEntry (s : State) (b : Berth) (g : AdmEntry → AdmEntry) : State :=
  s.mapBudget fun f => { f with queue := f.queue.map fun e => if e.berth = b then g e else e }

/-- The admission request: an ADMIT entry seeking full′ with minimum min′ (R91). -/
def State.requestAdmission (s : State) (b : Berth) : State :=
  s.joinEntry b .admission ((s.bu b).fullEff.getD 0) ((s.bu b).minEff.getD 0)

/-- The states in which a berth may have a TOPUP entry (R90). -/
def BState.mayTopup : BState → Bool
  | .ready _ | .sync _ | .parallel | .onShore _ => true
  | _ => false

/-- The berth's TOPUP entry is brought to its shortfall: sought updated in place, removed at none, joined at the tail where the
berth has none and its state may have one (R98, R103). -/
def State.settleTopup (s : State) (b : Berth) : State :=
  let short := (s.bu b).fullEff.getD 0 - (s.bu b).grant
  match s.entry b with
  | some e =>
    if e.kind = .admission then s
    else if short = 0 then s.removeEntry b
    else s.updateEntry b fun e => { e with sought := short }
  | none => if (s.bu b).st.mayTopup ∧ short ≠ 0 then s.joinEntry b .topup short 10 else s

/-! ## One grant -/

/-- Grant, draw and number are written together (R8, R86). -/
def State.writeGrant (s : State) (b : Berth) (g : Nat) (seq : Option Nat) : State :=
  s.mapBu b fun u => { u with grant := g, draw := drawOf (s.cls b) s.set.eff g, seq := seq }

/-- GRANT is owed where the grant, the draw or the number has changed from what it was (R3). -/
def State.oweGrant (s : State) (b : Berth) (old : Nat × Nat × Option Nat) : State :=
  if s.grantKey b = old then s else s.owe (.grant b (s.bu b).grant (s.bu b).draw (s.bu b).seq)

/-- A grant is written, with the GRANT notice the change calls for (R3, R8). -/
def State.regrant (s : State) (b : Berth) (g : Nat) (seq : Option Nat) : State := (s.writeGrant b g seq).oweGrant b (s.grantKey b)

/-- At the counter's end the berths that hold a number are renumbered in their order, and each of them posts GRANT, whichever number it
comes to hold (R89). DESIGN CHOICE (log 30): the notices come in berth number order. -/
def State.renumberSeqs (s : State) : State :=
  let held := Berth.all.filter fun b => (s.bu b).seq.isSome
  let rank (b : Berth) : Nat := 1 + (held.filter fun c => s.seqOf c < s.seqOf b).length
  let t := eachBerth (fun b t => if (s.bu b).seq.isSome then t.mapBu b fun u => { u with seq := some (rank b) } else t) s
  let t := t.mapBudget fun f => { f with seqCounter := held.length }
  eachBerth (fun b t => if (s.bu b).seq.isSome then t.owe (.grant b (t.bu b).grant (t.bu b).draw (t.bu b).seq) else t) t

/-- The next grant sequence number is taken: it then stands in the counter (R89). -/
def State.takeSeq (s : State) : State :=
  let s := if Config.counterMax ≤ s.budget.seqCounter then s.renumberSeqs else s
  s.mapBudget fun f => { f with seqCounter := f.seqCounter + 1 }

/-- RAISE or REDUCE reaches the ship with its link UP, but in READY before GRANT has been sent, where the record alone changes
(R8). -/
def State.informShip (s : State) (b : Berth) (m : Nat → QuayMsg) : State :=
  let early := match (s.bu b).st with
    | .ready _ => !(s.bu b).grantSent
    | _ => false
  if (s.ch b).link = .up ∧ early = false then s.send b (m (s.bu b).grant) else s

/-- One grant is reduced, its number kept (R89) but at a grant of 0, where a berth has none (R1; log 21): the record, the GRANT
notice, REDUCE. -/
def State.reduceGrant (s : State) (b : Berth) (g : Nat) : State :=
  ((s.regrant b g (if g = 0 then none else (s.bu b).seq)).informShip b .reduced).updateDemand

/-- One grant is raised under the next number (R96), with the change in the F60 berths that hold a grant (R94, R113). -/
def State.raiseGrant (s : State) (b : Berth) (g : Nat) : State :=
  let s := s.takeSeq
  ((s.regrant b g (some s.budget.seqCounter)).informShip b .raised).updateDemand

/-! ## Reductions -/

/-- A granted berth marked REDUCIBLE. -/
def State.reducible (s : State) (b : Berth) : Bool := (s.bu b).grant != 0 && !(s.bu b).irreducible

/-- The new grant of a reduction: the largest multiple of 10 with at most this draw, at least min′ (R103). -/
def State.reducedTo (s : State) (b : Berth) (room : Int) : Nat :=
  max ((s.bu b).minEff.getD 0) (largestGrant (s.cls b) s.set.eff room).toNat

/-- One berth's turn in a reduction of the sum of draws to a total (R103). -/
def reduceDraw (total : Nat) (s : State) (b : Berth) : State :=
  if s.drawSum ≤ total then s
  else
    let g := s.reducedTo b ((total : Int) - s.otherDraws b)
    if g < (s.bu b).grant then (s.reduceGrant b g).settleTopup b else s

/-- The reduction of the sum of draws, from the highest number down, and the scan that follows it (R103). -/
def State.reduceTo (s : State) (total : Nat) : State :=
  ((s.bySeq s.reducible).foldl (reduceDraw total) s).startScan

/-- One F60 berth's turn in a converter reduction (R108). -/
def reduceConverter (s : State) (b : Berth) : State :=
  if s.sum60 ≤ s.capacity then s
  else
    let g := max ((s.bu b).minEff.getD 0) (roundDown10Int ((s.capacity : Int) - s.other60 b)).toNat
    if g < (s.bu b).grant then (s.reduceGrant b g).settleTopup b else s

/-- The converter reduction (R108). -/
def State.reduceF60 (s : State) : State :=
  (s.bySeq fun b => s.reducible b && s.cls b == .f60).foldl reduceConverter s

/-! ## The floor and the pending target -/

/-- The working limit is set, with the reduction it calls for (R102, R104). -/
def State.lowerWorking (s : State) (w : Nat) : State :=
  let s := s.mapBudget fun f => { f with working := w }
  if w < s.drawSum then s.reduceTo w else s

/-- While the pending mark is set the working limit steps down to the larger of the target and the floor, never up; at the target
the mark is cleared and CURTAIL_DONE follows the reduction's GRANT notices (R104). -/
def State.stepDown (s : State) : State :=
  match s.budget.pendingMark, s.budget.target with
  | true, some t =>
    let s := s.lowerWorking (min s.budget.working (max t.kva s.floor))
    if s.budget.working = t.kva then (s.mapBudget fun f => { f with pendingMark := false }).owe (.curtailDone t.kva) else s
  | _, _ => s

/-- The grant return: grant and draw become 0, the number absent, the pending target is stepped down and a scan follows
(R91, R105). -/
def State.returnGrant (s : State) (b : Berth) : State :=
  if (s.bu b).grant = 0 then s.regrant b 0 none
  else ((s.regrant b 0 none).updateDemand.stepDown).startScan

/-! ## Curtailment -/

/-- The target of a CURTAIL as recorded: a multiple of 10 (R101, R102). -/
def targetOf (t : Nat) : Nat := roundDown10 t

/-- The working limit a CURTAIL sets (R101, R102). -/
def State.curtailedWorking (s : State) (t : Nat) : Nat :=
  if s.budget.working ≤ targetOf t then min (targetOf t) s.set.nativeLimit else max (targetOf t) s.floor

/-- The working limit lies above the target at the floor (R102). -/
def State.curtailPends (s : State) (t : Nat) : Bool := decide (targetOf t < s.budget.working) && decide (targetOf t < s.floor)

/-- The reply to CURTAIL is CLAMPED: the target exceeded the native limit on a lifting, or the floor exceeded it on a lowering, or
it was taken down to a multiple of 10 (R101, R102). -/
def State.curtailClamped (s : State) (t : Nat) : Bool :=
  targetOf t != t ||
    (if s.budget.working ≤ targetOf t then decide (s.set.nativeLimit < targetOf t) else decide (targetOf t < s.floor))

/-- A curtail target marked PERSISTENT is handed to the Settings Store (R106). -/
def State.persistTarget (s : State) (t : Nat) (mark : TargetMark) : State :=
  match mark with
  | .persistent => s.handOver (.target (targetOf t))
  | .volatile => s

/-- The effect of CURTAIL (R101, R102, R106). -/
def State.curtail (s : State) (t : Nat) (mark : TargetMark) : State :=
  let before := s.budget.working
  let w := s.curtailedWorking t
  let pends := s.curtailPends t
  let s := s.mapBudget fun f => { f with target := some { kva := targetOf t, mark := mark }, pendingMark := pends }
  let s :=
    if before ≤ targetOf t then
      let s := s.mapBudget fun f => { f with working := w }
      if before < w then s.startScan else s
    else s.lowerWorking w
  s.persistTarget t mark

/-- The working limit that the settings and the target give (R84, R182). -/
def State.limitOf (s : State) : Nat :=
  match s.budget.target with
  | some t => min s.set.nativeLimit t.kva
  | none => s.set.nativeLimit

end Sys2Proof.Machine
end

