-- ==== Sys2Proof/Machine/Permit.lean ====
section
/-! DEFINITION. The parallel permit and the Permit Line (R142 to R146): joining, the give, the release and the withdrawal. -/

namespace Sys2Proof.Machine

/-- A return-class entry with its head mark set. -/
def LineEntry.marked (e : LineEntry) : Bool := e.cls == .returning && e.head

/-- The place of a new entry: forward entries last, return entries behind every return entry, marked ones behind every marked one
(R143). -/
def insertLine (e : LineEntry) (line : List LineEntry) : List LineEntry :=
  match e.cls, e.head with
  | .forward, _ => line ++ [e]
  | .returning, false => line.filter (fun x => x.cls == .returning) ++ [e] ++ line.filter (fun x => x.cls != .returning)
  | .returning, true => line.filter LineEntry.marked ++ [e] ++ line.filter (fun x => !x.marked)

/-- The berth that takes the permit goes on by its class: SYNC under the sync timer, or PERMIT_RETURN and GENS_WAIT under the
gens-on limit, whose length is the sync limit (R144, R159). -/
def State.begin (s : State) (e : LineEntry) : State :=
  let due := s.after (s.set.syncLimit * 1000)
  match e.cls with
  | .forward => (s.mapTransfer fun t => { t with sync := due }).setState e.berth (.sync .checking)
  | .returning =>
    ((s.send e.berth .permitReturn).mapTransfer fun t => { t with gensOn := due }).setState e.berth (.returning .gensWait)

/-- The give: with no holder, no open resume round and an entry in the line, the head of the line takes the permit (R144). -/
def State.givePermit (s : State) : State :=
  match s.transfer.holder, s.transfer.resumeRound, s.transfer.line with
  | none, false, e :: rest =>
    (s.mapTransfer fun t => { t with line := rest, holder := some e.berth, dwell := t.dwell.set e.berth 0 }).begin e
  | _, _, _ => s

/-- A berth asks for the permit; a berth that holds it or has an entry is not added (R143). -/
def State.requestPermit (s : State) (b : Berth) (cls : LineClass) (head : Bool) : State :=
  if s.permit b = .none then
    (s.mapTransfer fun t => { t with line := insertLine { berth := b, cls := cls, head := head } t.line }).givePermit
  else s

/-- The Transfer Unit after the holder's release, before the next give (R145). -/
def TransferUnit.released (t : TransferUnit) (b : Berth) : TransferUnit :=
  { t with holder := none, dwell := t.dwell.set b 0, lastMatch := none, sync := none, parallel := none, reverse := none,
           gensOn := none, returnParallel := none }

/-- A berth gives up the permit or its entry: the holder's release passes the permit on (R145), any other berth's is a withdrawal
(R146). -/
def State.releasePermit (s : State) (b : Berth) : State :=
  if s.transfer.holder = some b then (s.mapTransfer fun t => t.released b).givePermit
  else s.mapTransfer fun t => { t with line := t.line.filter fun e => e.berth != b }

end Sys2Proof.Machine
end

