-- ==== Sys2Proof/Machine/TestBus.lean ====
section
/-! DEFINITION. The Test Dispatcher: the Test Queue, the assignment of units, the beginning of a test and of an attempt, result
records, withdrawal and abort (R65 to R80). -/

namespace Sys2Proof.Machine

/-- The unit that serves a berth. -/
def State.servedBy (s : State) (b : Berth) : Option TestUnit :=
  if s.tests.unitA.berth = some b then some .a else if s.tests.unitB.berth = some b then some .b else none

/-- A unit begins a test: the berth's last result is cleared, the unit starts at the berth's last good index, the berth is told, and
the earth interval starts (R68). -/
def State.beginTest (s : State) (u : TestUnit) (b : Berth) : State :=
  let s := s.mapTests fun t => { t with results := t.results.set b none }
  let s := s.setUnit u { UnitRec.free with
    status := .earth, berth := some b, index := s.tests.lastGood.get b, earthInterval := s.after Config.earthMs }
  s.setState b (.test .testing)

/-- The head of the queue goes to this unit if the unit is FREE and E-stop is inactive (R67). -/
def State.assignTo (s : State) (u : TestUnit) : State :=
  match s.lines.estop, (s.unit u).status, s.tests.queue with
  | false, .free, e :: rest => (s.mapTests fun t => { t with queue := rest }).beginTest u e.berth
  | _, _, _ => s

/-- Assignments as far as they go, IT-A before IT-B (R67). -/
def State.assign (s : State) : State := (s.assignTo .a).assignTo .b

/-- A test request joins the queue at its tail; a berth in the queue or under test is not added (R66). -/
def State.requestTest (s : State) (b : Berth) : State :=
  if s.tests.queue.any (fun e => e.berth == b) ∨ (s.servedBy b).isSome then s
  else (s.mapTests fun t => { t with queue := t.queue ++ [{ berth := b, joined := s.now }] }).assign

/-- The result record of a unit's test with a verdict (Table 3-4). -/
def UnitRec.result (r : UnitRec) (u : TestUnit) (v : Verdict) : TestResult :=
  { verdict := v, unit := u, earth := r.earth, insulation := r.insulation, index := r.index, hops := r.attempt - 1 }

/-- A berth's result record is written and TEST_RESULT posted; the unit is disconnected and FREE (R75, R76, R80). -/
def State.endTest (s : State) (u : TestUnit) (b : Berth) (v : Verdict) : State :=
  let r := (s.unit u).result u v
  let s := s.mapTests fun t => { t with results := t.results.set b (some r) }
  (s.post (.testResult b r)).setUnit u .free

/-- An abort (R80). -/
def State.abortTest (s : State) (u : TestUnit) (b : Berth) : State := (s.endTest u b .aborted).assign

/-- What the stand-down does at the Dispatcher: the entry is withdrawn (R79), or the test under way aborted (R80). -/
def State.leaveTests (s : State) (b : Berth) : State :=
  match s.servedBy b with
  | some u => s.abortTest u b
  | none => s.mapTests fun t => { t with queue := t.queue.filter fun e => e.berth != b }

/-- The signal of an attempt at an index: 50 V peak at the frequency of Table 3-2 (R71). -/
def injectionAt (i : Fin 4) : Injection := { volts := Config.injectionVolts, mHz := Config.injectionMHz i }

/-- An insulation attempt begins: the unit injects at its index for the measurement interval (R71). -/
def State.beginAttempt (s : State) (u : TestUnit) (b : Berth) : State :=
  let r := s.unit u
  s.setUnit u { r with status := .insulation, attempt := r.attempt + 1, switchLimit := none,
                       injection := some (injectionAt r.index), shorted := s.switch b != some .opened, measurement := s.after Config.measureMs }

/-- The unit goes to OPENING: the switch is commanded open under the limit, or the step ends at once where it reports open
(R70). -/
def State.beginOpening (s : State) (u : TestUnit) (b : Berth) : State :=
  if s.switch b = some .opened then s.beginAttempt u b
  else
    let s := s.setUnit u { s.unit u with status := .opening, switchLimit := s.after Config.switchMs }
    s.moveSwitch b .opened

/-- The unit stops injecting and goes to CLOSING with the verdict its measurement gave (R72 to R74). -/
def State.beginClosing (s : State) (u : TestUnit) (v : Verdict) : State :=
  s.setUnit u { s.unit u with status := .closing, verdict := some v, injection := none, discharge := s.after Config.testDischargeMs }

end Sys2Proof.Machine
end

