-- ==== Sys2Proof/Machine/Sequence.lean ====
section
/-! DEFINITION. The procedures of the Berth Sequence that several events share: the stand-down (R6), entry to VACANT, PROBE, TEST,
READY, ON_SHORE, RETURN and RELEASED, faults (R29), the close command (R20, R169, R175), sheds (R37) and the close of the resume
round (R189). -/

namespace Sys2Proof.Machine

/-! ## Stand-down -/

/-- Step 6 of the stand-down, with the marks bound to a connection (R6; log 20). -/
def BerthUnit.standDown (u : BerthUnit) : BerthUnit :=
  { u with releasePending := false, shed := false, transferMode := none, adoptedMark := false, heldUnloaded := false,
           answered := false,
           timers := { BerthTimers.none with discharge := u.timers.discharge, freshness := u.timers.freshness,
                                             earthSwitch := if u.earthing = .closing then u.timers.earthSwitch else none } }

/-- The stand-down (R6). -/
def State.standDown (s : State) (b : Berth) : State :=
  ((((s.leaveTests b).removeEntry b).returnGrant b).releasePermit b).mapBu b BerthUnit.standDown

/-! ## VACANT, PROBE -/

/-- VACANT goes on to PROBE, the plug latch cleared (R5, R9). -/
def State.leaveVacant (s : State) (b : Berth) : State :=
  if s.present b then (s.mapBu b fun u => { u with attachSeen := false, detachSeen := false }).beginQuiet b else s

/-- Entry to VACANT: the channel restarts (R49), the earthing procedure runs unless the switch is reported closed, and a detected
plug leads on to PROBE (R9). -/
def State.enterVacant (s : State) (b : Berth) : State :=
  ((((s.setState b .vacant).mapCh b Channel.restart).startEarthing b)).leaveVacant b

/-- In RELEASED and FAULTED a set detach-seen leads to VACANT (R5). -/
def State.actOnDetach (s : State) (b : Berth) : State :=
  match (s.bu b).st, (s.bu b).detachSeen with
  | .released _, true => s.enterVacant b
  | .faulted, true => s.enterVacant b
  | _, _ => s

/-! ## Faults -/

/-- A cause is recorded with its FAULT notice (R29). -/
def State.recordCause (s : State) (b : Berth) (c : FaultCause) : State :=
  (s.mapBu b fun u => { u with lastFault := some c }).post (.fault b c)

/-- The breaker had been closed: it is reported closed, or the berth stood in a state with it closed (R29, R63; log 18). -/
def State.hadClosed (s : State) (b : Berth) : Bool := s.breaker b == .closed || (s.bu b).st.supplied

/-- Entry to FAULTED (R29): cause, stand-down, breaker open, OPENED where it had been closed, earthing procedure, the state with its
notice, FAULT; then a set detach-seen leads to VACANT (R30). The backup-pending mark is cleared with the fault (R175). -/
def State.enterFaulted (s : State) (b : Berth) (c : FaultCause) : State :=
  let closed := s.hadClosed b
  let s := s.mapBu b fun u => { u with lastFault := some c }
  let s := (s.standDown b).openBreaker b
  let s := if closed then s.send b (.opened (.fault c)) else s
  let s := ((s.startEarthing b).setState b .faulted).post (.fault b c)
  let s := s.mapPb b fun p => { p with backupPending := none }
  s.actOnDetach b

/-- A fault reaches a berth: a FAULTED one has its cause replaced (R29, Table 7-2). -/
def State.fault (s : State) (b : Berth) (c : FaultCause) : State :=
  if (s.bu b).st = .faulted then s.recordCause b c else s.enterFaulted b c

/-- A fault that does not reach a FAULTED berth (R179, Table 7-2). -/
def State.faultOnce (s : State) (b : Berth) (c : FaultCause) : State :=
  if (s.bu b).st = .faulted then s else s.enterFaulted b c

/-- A fault of the earthing switch or the selector: a BLOCKED berth records the cause and stays (R39, R177). -/
def State.faultEquipment (s : State) (b : Berth) (c : FaultCause) : State :=
  if (s.bu b).st = .blocked then s.recordCause b c else s.fault b c

/-! ## RELEASED -/

/-- Entry to RELEASED: the breaker commanded open if it is not reported open, the earthing procedure started (R28), then a set
detach-seen acted on. -/
def State.enterReleased (s : State) (b : Berth) : State :=
  let s := if s.breaker b = .opened then s else s.openBreaker b
  let s := s.startEarthing b
  let s := s.setState b (.released (if (s.bu b).earthing = .idle then .earthed else .earthing))
  s.actOnDetach b

/-- A transition to RELEASED with the stand-down (R28). -/
def State.releaseBerth (s : State) (b : Berth) : State := ((s.withdrawClose b).standDown b).enterReleased b

/-! ## TEST -/

/-- Entry to TEST asks for a test (R12); under E-stop the berth is reported ESTOP at once (R171). -/
def State.enterTest (s : State) (b : Berth) : State :=
  let s := s.mapBu b fun u => { u with syncAttempts := 0, retestCount := 0 }
  let s := (s.setState b (.test .testWait)).requestTest b
  if s.lines.estop then s.faultOnce b .estop else s

/-- A verdict reaches the Berth Unit (R12, R13). -/
def State.takeVerdict (s : State) (b : Berth) (v : Verdict) : State :=
  match (s.bu b).st, v with
  | .test _, .pass => ((s.mapBu b fun u => { u with retestCount := 0 }).requestAdmission b).setState b .queued
  | .test _, .fail => s.fault b .testFail
  | .test _, .inconclusive =>
    if (s.bu b).retestCount < 2 then
      let s := (s.mapBu b fun u => { u with retestCount := u.retestCount + 1 }).setState b (.test .retestDelay)
      s.mapTimers b fun t => { t with retest := s.after Config.retestMs }
    else s.fault b .testInconclusive
  | _, _ => s

/-- A verdict is delivered: result, TEST_RESULT, unit FREE, the Berth Unit's act, the next assignment (R76). -/
def State.deliver (s : State) (u : TestUnit) (b : Berth) (v : Verdict) : State := ((s.endTest u b v).takeVerdict b v).assign

/-- A test unit's step that this feedback ends: open feedback ends OPENING (R70), closed feedback the closing step (R74); a switch
other than open in an attempt marks it (R71). -/
def State.feedTest (s : State) (b : Berth) (u : TestUnit) : State :=
  let r := s.unit u
  match r.status, s.switch b with
  | .opening, some .opened => s.beginAttempt u b
  | .closing, some .closed =>
    match r.switchLimit, r.verdict with
    | some _, some v => s.deliver u b v
    | _, _ => s
  | .insulation, p => if p = some .opened then s else s.setUnit u { r with shorted := true }
  | _, _ => s

/-- The closing step fails: the record keeps the verdict reached, and a fault is reported in its place (R75). DESIGN CHOICE (log 51):
the fault comes before the next assignment. -/
def State.failClosing (s : State) (u : TestUnit) (b : Berth) (v : Verdict) (c : FaultCause) : State :=
  ((s.endTest u b v).fault b c).assign

/-! ## READY -/

/-- The end of PREPARING: AWAIT_SHIP, or WAIT_BANK for an F60 berth while the bank is not RUNNING (R16). -/
def State.endPreparing (s : State) (b : Berth) : State :=
  if s.cls b = .f60 ∧ s.bank.st ≠ .running then s.setState b (.ready .waitBank) else s.awaitShip b

/-- A commanded move ends with its feedback: the position is confirmed (R177). -/
def State.confirmSwitch (s : State) (b : Berth) : State :=
  match (s.bu b).switchCmd with
  | some p =>
    if s.switch b = some p then
      (s.mapBu b fun u => { u with switchCmd := none }).mapPb b fun q => { q with switchConfirmed := some p, switchDisagree := none }
    else s
  | none => s

/-- Open feedback within the limit ends PREPARING (R16). -/
def State.feedPreparing (s : State) (b : Berth) : State :=
  if (s.bu b).st = .ready .preparing ∧ (s.bu b).timers.earthSwitch.isSome ∧ s.switch b = some .opened then
    (s.mapTimers b fun t => { t with earthSwitch := none }).endPreparing b
  else s

/-- The selector step ends: its position is confirmed (R177) and the earthing switch commanded open under its limit (R16). Where the
switch is reported open already, that feedback ends the move at once (log 14). -/
def State.endSelectorStep (s : State) (b : Berth) : State :=
  let s := s.mapPb b fun p => { p with selectorConfirmed := s.selector b, selectorDisagree := none }
  let s := s.mapBu b fun u => { u with selectorCmd := none, timers := { u.timers with selector := none } }
  ((s.commandSwitch b .opened).confirmSwitch b).feedPreparing b

/-- The selector step of PREPARING (R15). -/
def State.startSelectorStep (s : State) (b : Berth) : State :=
  if s.selector b = some (s.cls b) then s.endSelectorStep b
  else s.mapBu b fun u =>
    { u with selectorCmd := some (s.cls b), timers := { u.timers with selector := s.after Config.selectorMs } }

/-- The part of entry to READY that precedes the selector step (R15). -/
def State.takeReady (s : State) (b : Berth) : State :=
  let s := (s.endEarthing b).setState b (.ready .preparing)
  s.mapBu b fun u => { u with grantSent := false, timers := { u.timers with ready := s.after (s.set.readyLimit * 1000) } }

/-- READY is left for QUEUED by the ready limit's expiry or a shed, but for the grant and the new entry (R22, R37): the Permit Line
entry is withdrawn and GRANT with grant 0 sent if one had been sent. -/
def State.withdrawReady (s : State) (b : Berth) : State :=
  let s := (s.withdrawClose b).releasePermit b
  if (s.bu b).grantSent then s.sendGrantZero b else s

/-- READY or SYNC is left for QUEUED once the grant is gone: earthing procedure and the state (R22, R37). -/
def State.backToQueued (s : State) (b : Berth) : State := (s.startEarthing b).setState b .queued

/-! ## The close command -/

/-- The breaker is commanded closed under its supervision (R173); in SYNC the substate becomes CLOSING (R21). -/
def State.commandClose (s : State) (b : Berth) : State :=
  let s := s.mapBu b fun u => { u with breakerCmd := some .close }
  let s := s.mapPb b fun p => { p with closeSup := s.after Config.supervisionMs }
  if (s.bu b).st = .sync .checking then s.setState b (.sync .closing) else s

/-- A close is due: refused where the earthing switch is not reported open or the pilot loop is open (R20); given, and withdrawn at
once under selected trip (R169) or the group's backup trip (R175; log 12). DESIGN CHOICE (log 49): where both obstacles of R20 stand,
EARTH_SWITCH alone is reported. -/
def State.closeBreaker (s : State) (b : Berth) : State :=
  if s.switch b ≠ some .opened then s.fault b .earthSwitch
  else if (s.ln b).pilotContinuous = false then s.fault b .pilotOpen
  else
    let s := s.commandClose b
    match s.selectedTrip b with
    | some c => s.fault b c
    | none => if s.output (s.bset b).group then s.fault b .backupTrip else s

/-- In OPEN_CLOSE a current report of a dead cable ends the check and the close is due (R19, R157). -/
def State.checkOpenClose (s : State) (b : Berth) : State :=
  if (s.bu b).st = .ready .openClose ∧ (s.bu b).timers.cable.isSome ∧ s.cableDead b then
    (s.mapTimers b fun t => { t with cable := none }).closeBreaker b
  else s

/-- In CABLE_CHECK a current report of a live cable ends the check and the permit is asked for (R18). -/
def State.checkCable (s : State) (b : Berth) : State :=
  if (s.bu b).st = .ready .cableCheck ∧ s.cableLive b then
    (s.setState b (.ready .waitPermit)).requestPermit b .forward false
  else s

/-! ## ON_SHORE and RETURN -/

/-- The shore-initiated return: release-pending, TAKEBACK_ORDER, the answer limit (R25). -/
def State.orderTakeback (s : State) (b : Berth) : State :=
  let s := (s.mapBu b fun u => { u with releasePending := true }).send b .takebackOrder
  s.mapTimers b fun t => { t with answer := s.after Config.answerMs }

/-- Entry to ON_SHORE: SUPPLIED, or LINK_HOLD where it is held or the link is LOST; with release-pending set the shore-initiated
return begins in SUPPLIED (R25). DESIGN CHOICE (log 63): an arrival in LINK_HOLD, from ADOPTED too, sends nothing, and the return begins
once the berth is back in SUPPLIED (R26). -/
def State.enterOnShore (s : State) (b : Berth) (hold : Bool) : State :=
  if hold = true ∨ (s.ch b).link = .lost then s.setState b (.onShore .linkHold)
  else
    let s := s.setState b (.onShore .supplied)
    if (s.bu b).releasePending then s.orderTakeback b else s

/-- In RETURN_PARALLEL a current report below the release threshold has the breaker commanded open (R161). -/
def State.checkThreshold (s : State) (b : Berth) : State :=
  if (s.bu b).st = .returning .returnParallel ∧ s.belowThreshold b then
    ((s.mapTransfer fun t => { t with returnParallel := none }).openBreaker b).setState b (.returning .separating)
  else s

/-- The berth takes RETURN_PARALLEL under the return-parallel timer (R159, R163). -/
def State.enterReturnParallel (s : State) (b : Berth) : State :=
  let s := s.mapTransfer fun t =>
    { t with gensOn := none, parallel := none, reverse := none,
             returnParallel := s.after (s.set.returnParallelLimit * 1000) }
  (s.setState b (.returning .returnParallel)).checkThreshold b

/-- The berth enters RETURN: its release threshold is recorded from the grant held before (R158) and its TOPUP entry removed
(R91). -/
def State.enterReturn (s : State) (b : Berth) (held : Nat) : State :=
  let s := s.mapTransfer fun t => { t with threshold := t.threshold.set b (some (thresholdOf held)) }
  (s.setState b (.returning .lineWait)).removeEntry b

/-- The take-back limit is started unless it runs (R37). -/
def State.startTakeBack (s : State) (b : Berth) : State :=
  if (s.bu b).timers.takeBack.isSome then s
  else s.mapTimers b fun t => { t with takeBack := s.after (s.set.takeBackLimit * 1000) }

/-- A return completes with the breaker reported open (R27). -/
def State.completeReturn (s : State) (b : Berth) : State := (s.send b (.opened .returned)).releaseBerth b

/-- Synchronisation is abandoned: SYNC_ABANDONED, the permit given back (R23 steps 1 and 2). -/
def State.abandonSync (s : State) (b : Berth) : State := ((s.withdrawClose b).send b .syncAbandoned).releasePermit b

/-! ## Sheds -/

/-- A berth in PARALLEL shed: RETURN with the permit, PERMIT_RETURN sent (R37, R163). -/
def State.shedParallel (s : State) (b : Berth) (held : Nat) : State :=
  let s := s.mapTransfer fun t => { t with threshold := t.threshold.set b (some (thresholdOf held)) }
  ((s.send b .permitReturn).removeEntry b).enterReturnParallel b

/-- A berth on supply shed: TAKEBACK_ORDER, RETURN under the take-back limit (R37). -/
def State.shedOnShore (s : State) (b : Berth) (held : Nat) : State :=
  let s := (s.mapBu b fun u => { u with adoptedMark := false }).send b .takebackOrder
  (s.enterReturn b held).startTakeBack b

/-- A shed event acts on a berth by state, its grant held before given (R37). -/
def State.actOnShed (s : State) (b : Berth) (held : Nat) : State :=
  let mark (s : State) : State := s.mapBu b fun u => { u with shed := true }
  match (s.bu b).st with
  | .ready _ => ((s.withdrawReady b).mapBu b fun u => { u with transferMode := none }).backToQueued b
  | .sync _ => (s.abandonSync b).backToQueued b
  | .parallel => (mark s).shedParallel b held
  | .onShore _ => ((mark s).shedOnShore b held).requestPermit b .returning false
  | .adopted => ((mark s).shedOnShore b held).requestPermit b .returning false
  | .returning _ => (mark s).startTakeBack b
  | _ => s

/-- One berth is shed: its grant becomes 0, its TOPUP entry is removed, and the Berth Unit acts (R109). -/
def State.shedOne (s : State) (b : Berth) : State :=
  let held := (s.bu b).grant
  (((s.regrant b 0 none).removeEntry b).actOnShed b held).updateDemand

/-! ## The resume round -/

/-- A TOPUP entry joins for a berth on supply whose grant is below full′ (R188). -/
def State.joinTopup (s : State) (b : Berth) : State :=
  let short := (s.bu b).fullEff.getD 0 - (s.bu b).grant
  if short = 0 then s else s.joinEntry b .topup short 10

/-- Step 1 of the close: an answered berth without generators online enters ON_SHORE (R189). DESIGN CHOICE (log 81): with
its link LOST its substate is LINK_HOLD, R25 taken over R189. -/
def closeUnloaded (b : Berth) (s : State) : State :=
  if (s.bu b).st = .adopted ∧ (s.bu b).gens = some 0 then (s.enterOnShore b false).joinTopup b else s

/-- Step 2 and 3 of the close: the first answered berth takes the permit and enters PARALLEL, each other one enters RETURN at the
head of the return class (R189), its threshold from the grant it held before the event (R158; log 41). -/
def closeLoaded (before : State) (b : Berth) (s : State) : State :=
  if (s.bu b).st ≠ .adopted then s
  else if s.transfer.holder = none then
    let s := s.mapTransfer fun t =>
      { t with holder := some b, dwell := t.dwell.set b 0, parallel := s.after (s.set.parallelLimit * 1000), reverse := none }
    ((s.setState b .parallel).send b .closed).joinTopup b
  else (s.enterReturn b (before.bu b).grant).requestPermit b .returning true

/-- A resume round is open and no berth is in ADOPTED unanswered (R187). -/
def State.roundOver (s : State) : Bool := s.transfer.resumeRound && !Berth.all.any s.unanswered

/-- The round closes once no berth is in ADOPTED unanswered (R187, R189). -/
def State.closeRound (s before : State) : State :=
  if s.roundOver then
    let s := s.mapTransfer fun t => { t with resumeRound := false }
    (eachBerth (closeLoaded before) (eachBerth closeUnloaded s)).givePermit
  else s

/-- An event that may leave no berth unanswered in ADOPTED, with the close of the resume round it so brings to its end (R187; log 35). -/
def State.eventClosing (s : State) (f : State → State) : State :=
  s.event fun u => if u.roundOver then f u else (f u).closeRound u

end Sys2Proof.Machine
end

