-- ==== Sys2Proof/Machine/Admission.lean ====
section
/-! DEFINITION. The admission scan (R92 to R97, R110) and its meaning as a command. -/

namespace Sys2Proof.Machine

/-! ## What a scan sees -/

/-- The headroom and the converter margin that have come free since a scan was started: it runs without them, and the scan that their
own event started finds them (R92, R99; log 22). -/
structure Freed where
  headroom : Int
  margin : Int
deriving DecidableEq, Repr

/-- What has come free since a scan was started. -/
def State.freedSince (s : State) (k : ScanStart) : Freed :=
  { headroom := max 0 (s.terminalHeadroom - k.headroom), margin := max 0 (s.terminalMargin - k.margin) }

/-- The headroom H of a berth as a scan sees it (R88, R92). -/
def State.headroomSeen (s : State) (x : Freed) (b : Berth) : Int := s.headroom b - x.headroom

/-- The converter margin C of a berth as a scan sees it (R88, R92). -/
def State.marginSeen (s : State) (x : Freed) (b : Berth) : Int := s.margin b - x.margin

/-- The berths whose entries a scan passes over: those that had joined when it was started (R92, R99). -/
def ScanStart.sees (k : ScanStart) (q : List AdmEntry) : List Berth :=
  (q.filter fun e => decide (e.join ≤ k.upto)).map AdmEntry.berth

/-- The entries of these berths. -/
def entriesOf (seen : List Berth) (q : List AdmEntry) : List AdmEntry := q.filter fun e => seen.contains e.berth

/-! ## The ADMIT part -/

/-- The candidate grant of an F50 berth before full′ (R93). -/
def candidate50 (h : Int) : Int := roundDown10Int h

/-- The draw of a grant that may lie below 0. -/
def drawOfInt (eff : Nat) (g : Int) : Int := (drawOf .f60 eff g.toNat : Nat)

/-- The candidate grant of an F60 berth before full′ and its converter margin (R93 steps 1 and 2). -/
def candidate60 (eff : Nat) (h : Int) : Int :=
  let g := roundDown10Int (h * eff / 100)
  if h < drawOfInt eff g then g - 10 else g

/-- The candidate grant of an ADMIT entry (R93). -/
def State.candidate (s : State) (x : Freed) (e : AdmEntry) : Int :=
  let h := s.headroomSeen x e.berth
  match s.cls e.berth with
  | .f50 => min (candidate50 h) e.sought
  | .f60 =>
    let g := min (min (candidate60 s.set.eff h) e.sought) (s.marginSeen x e.berth)
    if s.bank.suspended then min g (max e.minimum 10 : Nat) else g

/-- The candidate fits (R93). -/
def fits (e : AdmEntry) (g : Int) : Bool := decide ((e.minimum : Int) ≤ g) && decide (10 ≤ g)

/-- The pass-over counts of these berths' ADMIT entries are raised, not above 3 (R95). -/
def State.raisePassOver (s : State) (bs : List Berth) : State :=
  s.mapBudget fun f =>
    { f with queue := f.queue.map fun e =>
        if e.kind = .admission ∧ bs.contains e.berth then { e with passOver := min 3 (e.passOver + 1) } else e }

/-- An entry is granted (R94): number, grant, the entry gone or a TOPUP entry for the rest, and the berth's entry to READY (R15), with
the report of F60 demand before the selector step (R118). -/
def State.grantEntry (s : State) (e : AdmEntry) (g : Nat) : State :=
  let b := e.berth
  let s := s.takeSeq
  let s := (s.regrant b g (some s.budget.seqCounter)).removeEntry b
  let s := if g < e.sought then s.joinEntry b .topup (e.sought - g) 10 else s
  ((s.takeReady b).updateDemand).startSelectorStep b

/-- The ADMIT part over the entries left, with the berths that did not fit and have not yet been counted (R94, R95). -/
def admitPart (x : Freed) : List AdmEntry → List Berth → State → State
  | [], _, s => s
  | e :: rest, missed, s =>
    if e.kind ≠ .admission ∨ (s.cls e.berth = .f60 ∧ s.bank.counted = 0) then admitPart x rest missed s
    else if fits e (s.candidate x e) then
      admitPart x rest [] ((s.raisePassOver missed).grantEntry e (s.candidate x e).toNat)
    else if 3 ≤ e.passOver then s
    else admitPart x rest (missed ++ [e.berth]) s

/-! ## The TOPUP part -/

/-- The grant a TOPUP entry can be raised to (R96). -/
def State.raiseTo (s : State) (x : Freed) (b : Berth) : Int :=
  let g := min (largestGrant (s.cls b) s.set.eff (s.headroomSeen x b)) ((s.bu b).fullEff.getD 0 : Nat)
  if s.cls b = .f60 then min g (roundDown10Int (s.marginSeen x b)) else g

/-- A TOPUP entry is passed by: LINK_HOLD, or F60 under the suspension mark (R97). -/
def State.topupPassed (s : State) (b : Berth) : Bool :=
  (s.bu b).st == .onShore .linkHold || (s.cls b == .f60 && s.bank.suspended)

/-- One TOPUP entry's turn (R96). -/
def topupTurn (x : Freed) (s : State) (e : AdmEntry) : State :=
  let b := e.berth
  if e.kind ≠ .topup ∨ s.topupPassed b then s
  else
    let g := s.raiseTo x b
    if ((s.bu b).grant : Int) < g then (s.raiseGrant b g.toNat).settleTopup b else s

/-! ## The scan -/

/-- One pass over the Admission Queue (R92): the ADMIT part, then the TOPUP part when no ADMIT entry is left. -/
def State.scan (s : State) (k : ScanStart) : State :=
  let x := s.freedSince k
  let seen := k.sees s.budget.queue
  let s := admitPart x (entriesOf seen s.budget.queue) [] s
  let left := entriesOf seen s.budget.queue
  if left.any (fun e => e.kind == .admission) then s else left.foldl (topupTurn x) s

/-- A waiting scan after another has run: it sees what that one left (R92). -/
def ScanStart.after (used : Freed) (k : ScanStart) : ScanStart :=
  { k with headroom := k.headroom - used.headroom, margin := k.margin - used.margin }

/-- A scan runs as an event of its own, and the scans that wait behind it see what it has left (R92). -/
def State.runScan (s : State) (k : ScanStart) (waiting : List ScanStart) : State :=
  let t := (s.mapBudget fun f => { f with scans := waiting }).scan k
  let used : Freed :=
    { headroom := s.terminalHeadroom - t.terminalHeadroom, margin := s.terminalMargin - t.terminalMargin }
  t.mapBudget fun f => { f with scans := f.scans.map (ScanStart.after used) }

/-- The scan that was started first runs; where none was started, one on the queue and margins as they stand (log 22). -/
def State.nextScan (s : State) : State :=
  match s.budget.scans with
  | k :: waiting => s.runScan k waiting
  | [] => s.runScan s.scanNow []

/-- ADMISSION_SCAN (R92): the scan started first runs, unless scans are held (R203). -/
def execAdmissionScan (s : State) : Host.Outcome State Fault Refusal :=
  .next (s.eventClosing fun s => if s.scansHeld then s else s.nextScan)

end Sys2Proof.Machine
end

