-- ==== Sys2Proof/Machine/BerthEvents.lean ====
section
/-! DEFINITION. The events of the Berth Sequence that are not messages or orders: presence (R4, R5, R38), the pilot loop (R167),
selector and earthing switch feedback (R15, R16, R177), and the berth's timers. -/

namespace Sys2Proof.Machine

/-! ## Presence and the pilot loop -/

/-- A presence change at the Berth Unit: the latch, then the act by state (R4, R5, R9, R11, R38). -/
def State.presenceChanged (s : State) (b : Berth) : State :=
  if s.present b then
    let s := s.mapBu b fun u => { u with attachSeen := true }
    if (s.bu b).st = .vacant then s.leaveVacant b else s
  else
    let s := s.mapBu b fun u => { u with detachSeen := true }
    match (s.bu b).st with
    | .probe _ => s.enterVacant b
    | .released _ => s.actOnDetach b
    | .faulted => s.actOnDetach b
    | .vacant => s
    | .blocked => s
    | _ => s.fault b .pilotOpen

/-- Presence was this before an event; a change of it is acted on (R4). -/
def State.checkPresence (s : State) (b : Berth) (was : Bool) : State := if s.present b = was then s else s.presenceChanged b

/-- PLUG_PROXIMITY_CHANGE (R4). Without supply the wire alone changes. -/
def execPlugProximityChange (b : Berth) (asserted : Bool) (s : State) : Host.Outcome State Fault Refusal :=
  let was := s.present b
  .next ((s.mapLn b fun l => { l with proximity := asserted }).eventClosing fun s => s.checkPresence b was)

/-- PILOT_OPEN at the Berth Unit by state (R167). -/
def State.reportPilotOpen (s : State) (b : Berth) : State :=
  match (s.bu b).st with
  | .probe _ => s.enterVacant b
  | st => if st.connected then s.fault b .pilotOpen else s

/-- PILOT_LOOP_OPEN (R167): the loop recorded open, the hardware opening supervised, PILOT_OPEN reported, then the presence change it
may be (R38). -/
def execPilotLoopOpen (b : Berth) (s : State) : Host.Outcome State Fault Refusal :=
  let was := s.present b
  let before := (s.ln b).pilotContinuous
  .next ((s.mapLn b fun l => { l with pilotContinuous := false }).eventClosing fun s =>
    if before then ((s.superviseOpening b).reportPilotOpen b).checkPresence b was else s)

/-- PILOT_LOOP_CONTINUOUS (R167): the loop recorded, and the presence change it may be (R4). -/
def execPilotLoopContinuous (b : Berth) (s : State) : Host.Outcome State Fault Refusal :=
  let was := s.present b
  .next ((s.mapLn b fun l => { l with pilotContinuous := true }).event fun s => s.checkPresence b was)

/-! ## PROBE and TEST timers -/

/-- Expiry of the quiet timer (R10). -/
def execQuietTimerExpiry (b : Berth) (s : State) : Host.Outcome State Fault Refusal :=
  .next (s.eventClosing fun s =>
    s.expire (s.bu b).timers.quiet fun s =>
      (s.mapBu b fun u => { u with quietDone := true, timers := { u.timers with quiet := none } }).checkQuiet b)

/-- Expiry of the contact limit: FAULTED (NO_CONTACT) in CALLING (R11), LINK_HOLD from ADOPTED (R190). -/
def execContactLimitExpiry (b : Berth) (s : State) : Host.Outcome State Fault Refusal :=
  .next (s.eventClosing fun s =>
    s.expire (s.bu b).timers.contact fun s =>
      let s := s.mapTimers b fun t => { t with contact := none }
      if (s.bu b).st = .adopted then s.enterOnShore b true else s.fault b .noContact)

/-- Expiry of the retest delay: a test is asked for again (R13). -/
def execRetestDelayExpiry (b : Berth) (s : State) : Host.Outcome State Fault Refusal :=
  .next (s.eventClosing fun s =>
    s.expire (s.bu b).timers.retest fun s =>
      ((s.mapTimers b fun t => { t with retest := none }).setState b (.test .testWait)).requestTest b)

/-! ## The selector -/

/-- The selector's feedback regains its confirmed position, or leaves it while the selector is watched (R177). DESIGN CHOICE (log 68): the
case taken at once with the breaker CLOSED holds in the states that watch the selector alone. DESIGN CHOICE (log 78): feedback that
moves on between other positions is a departure anew. -/
def State.watchSelector (s : State) (b : Berth) : State :=
  if (s.pb b).selectorConfirmed.isNone then s
  else if s.selector b = (s.pb b).selectorConfirmed then s.mapPb b fun p => { p with selectorDisagree := none }
  else if !(s.bu b).selectorWatched then s
  else if s.breaker b = .closed ∨ s.closeOutstanding b then (s.openBreaker b).faultEquipment b .selector
  else if (s.pb b).selectorDisagree.isSome then s
  else s.mapPb b fun p => { p with selectorDisagree := s.after Config.selectorDisagreeMs }

/-- The selector step waits for its feedback (R15). -/
def State.inSelectorStep (s : State) (b : Berth) : Bool :=
  (s.bu b).st == .ready .preparing && (s.bu b).timers.selector.isSome

/-- SELECTOR_FEEDBACK (R15, R177), with the bank demand it bears on (R113). -/
def execSelectorFeedback (b : Berth) (at50 at60 : Bool) (s : State) : Host.Outcome State Fault Refusal :=
  .next ((s.mapLn b fun l => { l with selector50 := at50, selector60 := at60 }).eventClosing fun s =>
    let s := s.updateDemand
    if s.inSelectorStep b then
      if s.selector b = some (s.cls b) then s.endSelectorStep b else s
    else s.watchSelector b)

/-- Expiry of the selector limit: FAULTED (SELECTOR) (R15). -/
def execSelectorLimitExpiry (b : Berth) (s : State) : Host.Outcome State Fault Refusal :=
  .next (s.eventClosing fun s =>
    s.expire (s.bu b).timers.selector fun s =>
      (s.mapBu b fun u => { u with selectorCmd := none, timers := { u.timers with selector := none } }).fault b .selector)

/-! ## The earthing switch -/

/-- The earthing procedure that closed feedback ends (R7), with the move from EARTHING to EARTHED (R28). The position is confirmed for a
command that stands alone (R177; log 69). -/
def State.feedEarthing (s : State) (b : Berth) : State :=
  if (s.bu b).earthing ≠ .idle ∧ s.switch b = some .closed then
    let s := s.endEarthing b
    if (s.bu b).st = .released .earthing then s.setState b (.released .earthed) else s
  else s

/-- The switch is at its confirmed position. -/
def State.switchAgrees (s : State) (b : Berth) : Bool := (s.switch b).isSome && s.switch b == (s.pb b).switchConfirmed

/-- Feedback at the confirmed position cancels the disagreement timer (R177). -/
def State.regainSwitch (s : State) (b : Berth) : State :=
  if s.switchAgrees b then s.mapPb b fun p => { p with switchDisagree := none } else s

/-- The watched switch leaves its confirmed position: the disagreement timer starts unless it runs (R177). DESIGN CHOICE
(log 78): feedback that moves on between other positions once the timer has expired, or the departure was taken at once, starts it
again. -/
def State.leaveSwitch (s : State) (b : Berth) : State :=
  if (s.pb b).switchConfirmed.isNone ∨ s.switchAgrees b ∨ (s.pb b).switchDisagree.isSome then s
  else s.mapPb b fun p => { p with switchDisagree := s.after Config.switchDisagreeMs }

/-- With a close outstanding (R20) or the breaker closed (R177) a switch other than open is taken at once. -/
def State.switchUnsafe (s : State) (b : Berth) : Bool :=
  (s.closeOutstanding b || s.breaker b == .closed) && s.switch b != some .opened

/-- EARTH_SWITCH_FEEDBACK: ends a commanded move for the test unit, the earthing procedure or PREPARING, or is watched (R7, R16, R70,
R74, R177), and may let QUIET end (R10). -/
def execEarthSwitchFeedback (b : Berth) (closed opened : Bool) (s : State) : Host.Outcome State Fault Refusal :=
  .next ((s.mapLn b fun l => { l with switchClosed := closed, switchOpen := opened }).eventClosing fun s =>
    let s := s.confirmSwitch b
    let s := match s.servedBy b with
      | some u => s.feedTest b u
      | none => s
    let s := ((s.feedEarthing b).feedPreparing b).regainSwitch b
    if s.switchUnsafe b then (s.openBreaker b).faultEquipment b .earthSwitch
    else (s.leaveSwitch b).checkQuiet b)

/-- Expiry of the earthing switch limit: FAULTED (EARTH_SWITCH), and the end of the procedure it bounds (R7, R16). -/
def execEarthingSwitchLimitExpiry (b : Berth) (s : State) : Host.Outcome State Fault Refusal :=
  .next (s.eventClosing fun s =>
    s.expire (s.bu b).timers.earthSwitch fun s =>
      let s := s.mapBu b fun u =>
        { u with switchCmd := none, earthing := if u.earthing = .closing then .idle else u.earthing,
                 timers := { u.timers with earthSwitch := none } }
      s.faultEquipment b .earthSwitch)

/-- Expiry of the discharge interval: the switch is commanded closed, unless the breaker is no longer open or the cable no longer
known dead (R7; log 13). -/
def execDischargeIntervalExpiry (b : Berth) (s : State) : Host.Outcome State Fault Refusal :=
  .next (s.event fun s =>
    s.expire (s.bu b).timers.discharge fun s =>
      let s := s.mapTimers b fun t => { t with discharge := none }
      if s.breaker b = .opened ∧ s.cableDead b then
        (s.mapBu b fun u => { u with earthing := .closing }).commandSwitch b .closed
      else s.mapBu b fun u => { u with earthing := .waiting })

/-- Expiry of the earthing switch disagreement timer: EARTH_SWITCH (R177). -/
def execEarthSwitchDisagreementExpiry (b : Berth) (s : State) : Host.Outcome State Fault Refusal :=
  .next (s.eventClosing fun s =>
    s.expire (s.pb b).switchDisagree fun s =>
      (s.mapPb b fun p => { p with switchDisagree := none }).faultEquipment b .earthSwitch)

/-- Expiry of the selector disagreement timer: SELECTOR (R177). -/
def execSelectorDisagreementExpiry (b : Berth) (s : State) : Host.Outcome State Fault Refusal :=
  .next (s.eventClosing fun s =>
    s.expire (s.pb b).selectorDisagree fun s =>
      (s.mapPb b fun p => { p with selectorDisagree := none }).faultEquipment b .selector)

/-! ## READY and ON_SHORE timers -/

/-- Expiry of the cable limit: FAULTED (CABLE_STATE) (R18, R19). -/
def execCableLimitExpiry (b : Berth) (s : State) : Host.Outcome State Fault Refusal :=
  .next (s.eventClosing fun s =>
    s.expire (s.bu b).timers.cable fun s => (s.mapTimers b fun t => { t with cable := none }).fault b .cableState)

/-- Expiry of the ready limit: back to QUEUED with a new ADMIT entry at the tail (R22). The scan of the return is started before that
entry joins and does not see it (R99). -/
def execReadyLimitExpiry (b : Berth) (s : State) : Host.Outcome State Fault Refusal :=
  .next (s.eventClosing fun s =>
    s.expire (s.bu b).timers.ready fun s =>
      let s := (((s.withdrawReady b).removeEntry b).returnGrant b).boundScans
      let s := s.mapBu b fun u => { u with transferMode := none, timers := { u.timers with ready := none } }
      (s.backToQueued b).requestAdmission b)

/-- Expiry of the answer limit: RELEASE_PENDING (R25). -/
def execAnswerLimitExpiry (b : Berth) (s : State) : Host.Outcome State Fault Refusal :=
  .next (s.event fun s =>
    s.expire (s.bu b).timers.answer fun s => (s.mapTimers b fun t => { t with answer := none }).post (.releasePending b))

/-- Expiry of the take-back limit: FAULTED (SHED_FORCED) (R27, R163). -/
def execTakeBackLimitExpiry (b : Berth) (s : State) : Host.Outcome State Fault Refusal :=
  .next (s.eventClosing fun s =>
    s.expire (s.bu b).timers.takeBack fun s => (s.mapTimers b fun t => { t with takeBack := none }).fault b .shedForced)

end Sys2Proof.Machine
end

