-- ==== Sys2Proof/Machine/CableTest.lean ====
section
/-! DEFINITION. The intervals and the limit of a test unit: the earth phase (R69), the switch limit of OPENING and of the closing step
(R70, R74, R75), the measurement interval (R71 to R73) and the discharge interval of the closing step (R74, R75). -/

namespace Sys2Proof.Machine

/-! ## Earth phase -/

/-- An earth reading is judged: above the earth limit the verdict is FAIL and the test ends, otherwise it is kept and the unit goes to
OPENING (R69, R70). -/
def State.judgeEarth (s : State) (u : TestUnit) (b : Berth) (milliohm : Nat) : State :=
  let s := s.setUnit u { s.unit u with earth := some milliohm, earthInterval := none }
  if s.set.earthLimit < milliohm then s.deliver u b .fail else s.beginOpening u b

/-- Expiry of the earth interval with the unit's report of the earth loop (R69). -/
def execEarthIntervalExpiry (u : TestUnit) (milliohm : Nat) (s : State) : Host.Outcome State Fault Refusal :=
  .next (s.eventClosing fun s =>
    s.expire (s.unit u).earthInterval fun s =>
      match (s.unit u).berth with
      | some b => s.judgeEarth u b milliohm
      | none => s)

/-! ## The earthing switch limit -/

/-- The switch has not moved within the limit: EARTH_SWITCH is reported. In OPENING the stand-down aborts the test (R70); in CLOSING the
record keeps the verdict reached (R75). -/
def State.failSwitchMove (s : State) (u : TestUnit) (b : Berth) : State :=
  let s := (s.setUnit u { s.unit u with switchLimit := none }).mapBu b fun r => { r with switchCmd := none }
  match (s.unit u).status, (s.unit u).verdict with
  | .closing, some v => s.failClosing u b v .earthSwitch
  | _, _ => s.fault b .earthSwitch

/-- Expiry of a test unit's earthing switch limit (R70, R75). -/
def execTestSwitchLimitExpiry (u : TestUnit) (s : State) : Host.Outcome State Fault Refusal :=
  .next (s.eventClosing fun s =>
    s.expire (s.unit u).switchLimit fun s =>
      match (s.unit u).berth with
      | some b => s.failSwitchMove u b
      | none => s)

/-! ## Insulation phase -/

/-- The disturbance mark of a report: the unit's own finding, or a switch seen other than open in the interval (R71). -/
def UnitRec.disturbed (r : UnitRec) (mark : Bool) : Bool := mark || r.shorted

/-- The verdict on a clean insulation reading (R73). -/
def insulationVerdict (minimum megohm : Nat) : Verdict := if minimum ≤ megohm then .pass else .fail

/-- A disturbed attempt: a hop to the next index, or INCONCLUSIVE after the fourth (R72). -/
def State.hop (s : State) (u : TestUnit) (b : Berth) : State :=
  if (s.unit u).attempt < 4 then (s.setUnit u { s.unit u with index := (s.unit u).index + 1 }).beginAttempt u b
  else s.beginClosing u .inconclusive

/-- A clean attempt: the reading is kept, the berth's last good index set, and the unit goes to CLOSING (R73). -/
def State.judgeInsulation (s : State) (u : TestUnit) (b : Berth) (megohm : Nat) : State :=
  let s := s.setUnit u { s.unit u with insulation := some megohm }
  let s := s.mapTests fun t => { t with lastGood := t.lastGood.set b (s.unit u).index }
  s.beginClosing u (insulationVerdict s.set.insulationMin megohm)

/-- Expiry of the measurement interval with the unit's report (R71 to R73). -/
def execMeasurementIntervalExpiry (u : TestUnit) (megohm : Nat) (disturbed : Bool) (s : State) : Host.Outcome State Fault Refusal :=
  .next (s.event fun s =>
    s.expire (s.unit u).measurement fun s =>
      let s := s.setUnit u { s.unit u with measurement := none }
      match (s.unit u).berth with
      | some b => if (s.unit u).disturbed disturbed then s.hop u b else s.judgeInsulation u b megohm
      | none => s)

/-! ## The closing step -/

/-- The switch is commanded closed under the limit (R74). Where the switch is reported closed already, that feedback ends the move and
the test at once (log 14). -/
def State.commandTestClose (s : State) (u : TestUnit) (b : Berth) : State :=
  let s := (s.setUnit u { s.unit u with switchLimit := s.after Config.switchMs }).moveSwitch b .closed
  (s.confirmSwitch b).feedTest b u

/-- The two conditions of the closing step: the breaker reported open, and the unit's own reading below 10 % of Vn (R74). -/
def State.mayClose (s : State) (b : Berth) (cableV : Nat) : Bool := s.breaker b == .opened && decide (10 * cableV < s.vn b)

/-- Expiry of the closing step's discharge interval with the unit's reading of the cable (R74, R75). -/
def execTestDischargeIntervalExpiry (u : TestUnit) (cableV : Nat) (s : State) : Host.Outcome State Fault Refusal :=
  .next (s.eventClosing fun s =>
    s.expire (s.unit u).discharge fun s =>
      let s := s.setUnit u { s.unit u with discharge := none }
      match (s.unit u).berth, (s.unit u).verdict with
      | some b, some v => if s.mayClose b cableV then s.commandTestClose u b else s.failClosing u b v .cableState
      | _, _ => s)

end Sys2Proof.Machine
end

