-- ==== Sys2Proof/Machine/Capacity.lean ====
section
/-! DEFINITION. Counted capacity: the capacity report with its reduction and shed (R107 to R109), what follows a change of the Module
Table (R123), the end of a proof test (R127), and module events (R120, R121). -/

namespace Sys2Proof.Machine

/-! ## The capacity report -/

/-- One F60 berth's turn in the shed; the berths shed so far are carried along (R109). -/
def shedTurn (acc : State × List Berth) (b : Berth) : State × List Berth :=
  if acc.1.sum60 ≤ acc.1.capacity then acc else (acc.1.shedOne b, acc.2 ++ [b])

/-- The shed, highest number first, with the step down of a pending target that the returned grants bring (R37, R104, R105), then the
admission requests of the berths it took back to QUEUED (R109). -/
def State.shed (s : State) : State :=
  let r := (s.bySeq fun b => (s.bu b).grant != 0 && s.cls b == .f60).foldl shedTurn (s, [])
  r.2.foldl (fun s b => if (s.bu b).st = .queued then s.requestAdmission b else s) r.1.stepDown

/-- A fall of counted modules: the reduction where the F60 grants exceed the capacity, then the shed if needed (R107). -/
def State.fitCapacity (s : State) : State :=
  let s := if s.capacity < s.sum60 then s.reduceF60 else s
  if s.capacity < s.sum60 then s.shed else s

/-- The report of counted modules and suspension mark is acted on at once: the fall (R107). -/
def State.takeFall (s : State) (old : ConverterBank) : State := if s.bank.counted < old.counted then s.fitCapacity else s

/-- The report asks for a scan: the count has changed or the mark was lifted (R107). DESIGN CHOICE (log 52): every change of the count
asks for one, also a fall that reduces and sheds nothing. -/
def State.reportScans (s : State) (old : ConverterBank) : Bool :=
  s.bank.counted != old.counted || (old.suspended && !s.bank.suspended)

/-- A scan within the event that calls for it, on the queue and margins as they stand; the scans that wait see what it left. While scans
are held it waits with them (R203). -/
def State.scanWithin (s : State) : State := if s.scansHeld then s.startScan else s.runScan s.scanNow s.budget.scans

/-- The grants on a capacity report are made within the event of the report (R123). DESIGN CHOICE (log 66): for them R123 is taken over
R92, which has a scan started within an event run after it. -/
def State.scanReported (s : State) (old : ConverterBank) : State := if s.reportScans old then s.scanWithin else s

/-! ## A change of the Module Table -/

/-- Counted modules and the suspension mark are recomputed (R123). -/
def State.recount (s : State) : State :=
  s.mapBank fun k =>
    let n := countedOf k.modules
    { k with counted := n, suspended := decide (n ≤ s.set.suspThreshold) }

/-- A MODULE notice for each module whose state or strike changed, in module number order (R136). -/
def State.postModules (s : State) (old : PerModule ModuleRec) : State :=
  (Module.all.filter fun m =>
    ((s.bank.modules.get m).st, (s.bank.modules.get m).strike) != ((old.get m).st, (old.get m).strike)).foldl State.postModule s

/-- A changed Module Table up to the fall that the report brings: recomputation, notices, reduction and shed (R123 steps 2 to 4). -/
def State.reportModules (s : State) (old : ConverterBank) : State := ((s.recount).postModules old.modules).takeFall old

/-- The history is handed over where it changed or is owed all the same (R123 step 5, R132). -/
def State.handChanged (s : State) (old : ConverterBank) (owed : Bool) : State :=
  if owed = true ∨ historyOf s.bank.modules ≠ historyOf old.modules then s.handHistory else s

/-- What follows a change of the Module Table, within one event: recomputation, notices, the report with its reductions, sheds and grants,
the hand-over of the history (R123, R132). -/
def State.commitModules (s : State) (old : ConverterBank) (owed : Bool) : State :=
  ((s.reportModules old).scanReported old).handChanged old owed

/-- In STARTING every module event restarts the settle timer (R115). DESIGN CHOICE (log 53): a restart takes the bank settle setting in
force, also where APPLY has changed it since the timer was started (R112). -/
def State.touchSettle (s : State) : State :=
  if s.bank.st = .starting then s.mapBank fun k => { k with settle := s.after (s.set.bankSettle * 1000) } else s

/-- One module's record is changed, with all that follows (R123), and the recovery start where its conditions come to hold
(R114). -/
def State.changeModule (s : State) (m : Module) (r : ModuleRec) : State :=
  ((s.mapModule m fun _ => r).commitModules s.bank false).recover

/-- A module out of service: stopped, its contactor open, no limit running (R122). -/
def ModuleRec.withdrawn (st : MState) : ModuleRec := { st := st, strike := 0, restartLimit := none, proofLimit := none, cmd := .stop }

/-- A module back IN_SERVICE, commanded onto the bus unless the bank is STOPPED (R122). -/
def State.restored (s : State) : ModuleRec :=
  { st := .inService, strike := 0, restartLimit := none, proofLimit := none,
    cmd := if s.bank.st = .stopped then .stop else .run }

/-- After a test ends the next one begins, or an IDLE bank that is due to stop enters STOPPED (R127). -/
def State.afterProof (s : State) : State :=
  if !s.bank.proofList.isEmpty && s.bank.mayProve then s.beginProof
  else if s.bank.st = .idle ∧ s.bank.stopDue ∧ s.bank.proofList.isEmpty ∧ !s.bank.proofing then s.stopBank
  else s

/-- A proof test ends with this record (R127). -/
def State.endProof (s : State) (m : Module) (r : ModuleRec) : State := (s.changeModule m r).afterProof

/-- A RESTART_FAIL, or the restart limit's expiry taken as one: PROOF_PENDING with strike 0 (R120 to R122). -/
def State.failRestart (s : State) (m : Module) : State := s.changeModule m (.withdrawn .proofPending)

/-! ## The meanings of the module events -/

/-- TRIPPED (R120): RESTARTING under the 30 s limit, or the end of a proof test (R127). -/
def execTripped (m : Module) (s : State) : Host.Outcome State Fault Refusal :=
  .next (s.eventClosing fun s =>
    let s := s.touchSettle
    let r := s.bank.modules.get m
    let restart (o : Origin) : State :=
      s.changeModule m { r with st := .restarting o, restartLimit := s.after Config.restartMs }
    match r.st with
    | .inService => restart .inService
    | .watch => restart .watch
    | .proofing _ => s.endProof m (.withdrawn .retired)
    | _ => s)

/-- RESTART_OK (R120, R122): WATCH with strike 1, or RETIRED out of WATCH. -/
def execRestartOk (m : Module) (s : State) : Host.Outcome State Fault Refusal :=
  .next (s.eventClosing fun s =>
    let s := s.touchSettle
    match (s.bank.modules.get m).st with
    | .restarting .inService =>
      s.changeModule m { st := .watch, strike := 1, restartLimit := none, proofLimit := none, cmd := (s.bank.modules.get m).cmd }
    | .restarting .watch => s.changeModule m (.withdrawn .retired)
    | _ => s)

/-- RESTART_FAIL (R120): PROOF_PENDING. -/
def execRestartFail (m : Module) (s : State) : Host.Outcome State Fault Refusal :=
  .next (s.eventClosing fun s =>
    let s := s.touchSettle
    match (s.bank.modules.get m).st with
    | .restarting _ => s.failRestart m
    | _ => s)

/-- PROOF_PASS (R120, R127): IN_SERVICE. -/
def execProofPass (m : Module) (s : State) : Host.Outcome State Fault Refusal :=
  .next (s.eventClosing fun s =>
    let s := s.touchSettle
    match (s.bank.modules.get m).st with
    | .proofing _ => s.endProof m s.restored
    | _ => s)

/-- PROOF_FAIL (R120, R127): RETIRED. -/
def execProofFail (m : Module) (s : State) : Host.Outcome State Fault Refusal :=
  .next (s.eventClosing fun s =>
    let s := s.touchSettle
    match (s.bank.modules.get m).st with
    | .proofing _ => s.endProof m (.withdrawn .retired)
    | _ => s)

/-- Expiry of a module's restart limit, taken as a RESTART_FAIL (R121). -/
def execRestartLimitExpiry (m : Module) (s : State) : Host.Outcome State Fault Refusal :=
  .next (s.eventClosing fun s =>
    s.expire (s.bank.modules.get m).restartLimit fun s => (s.touchSettle).failRestart m)

/-- Expiry of a module's proof limit: the test is stopped and the module RETIRED (R127). -/
def execProofLimitExpiry (m : Module) (s : State) : Host.Outcome State Fault Refusal :=
  .next (s.eventClosing fun s =>
    s.expire (s.bank.modules.get m).proofLimit fun s => s.endProof m (.withdrawn .retired))

/-- Expiry of the settle timer: RUNNING where bank demand is above 0, else IDLE (R115). -/
def execSettleTimerExpiry (s : State) : Host.Outcome State Fault Refusal :=
  .next (s.eventClosing fun s =>
    s.expire s.bank.settle fun s => s.enterBank (if s.bank.demand = 0 then .idle else .running))

/-- Expiry of the idle-stop timer: STOPPED, or the stop-due mark while a proof test runs or waits (R117). -/
def execIdleStopTimerExpiry (s : State) : Host.Outcome State Fault Refusal :=
  .next (s.event fun s =>
    s.expire s.bank.idleStop fun s =>
      let s := s.mapBank fun k => { k with idleStop := none }
      if s.bank.proofing || !s.bank.proofList.isEmpty then s.mapBank fun k => { k with stopDue := true } else s.stopBank)

end Sys2Proof.Machine
end

