-- ==== Sys2Proof/Machine/Transfer.lean ====
section
/-! DEFINITION. Meter reports and the Transfer Unit's events (chapter 6), with the overdraw watch that reports feed (R178). -/

namespace Sys2Proof.Machine

/-! ## Meter reports -/

/-- A valid report becomes current, the freshness timer is restarted and last measured kVA written (R140). -/
def State.storeReport (s : State) (b : Berth) (r : MeterReport) : State :=
  s.mapBu b fun u =>
    { u with report := some (takenReport (s.vn b) r), reportAt := some s.now, lastKva := r.power,
             timers := { u.timers with freshness := s.after Config.freshnessMs } }

/-- A marked berth whose supply is shown dead faults with BACKUP_TRIP (R175). -/
def State.checkBackup (s : State) (b : Berth) : State :=
  if (s.pb b).backupPending.isSome && s.supplyDead b then s.faultOnce b .backupTrip else s

/-- The discharge interval is cancelled by a report of a live cable (R7 step 2). -/
def State.checkDischarge (s : State) (b : Berth) : State :=
  if (s.bu b).earthing = .discharging ∧ !s.cableDead b then
    s.mapBu b fun u => { u with earthing := .waiting, timers := { u.timers with discharge := none } }
  else s

/-- The dwell count of a berth. -/
def State.setDwell (s : State) (b : Berth) (n : Nat) : State := s.mapTransfer fun t => { t with dwell := t.dwell.set b n }

/-- MATCH is given to the channel and its quantities kept (R62, R150). -/
def State.sendMatch (s : State) (b : Berth) (m : MatchData) : State :=
  (s.send b (.match_ (clampSigned m.slip) (clampSigned m.phase) (clampSigned m.dv) m.inWindow)).mapTransfer
    fun t => { t with lastMatch := some m }

/-- A report in CHECKING with its quantities: MATCH, the dwell count, and the call for the close at N (R149 to R151). -/
def State.checkSync (s : State) (b : Berth) (m : MatchData) : State :=
  let s := s.sendMatch b m
  let n := if m.inWindow then s.transfer.dwell.get b + 1 else 0
  if m.inWindow = true ∧ s.set.dwellN ≤ n then
    ((s.setDwell b 0).mapTransfer fun t => { t with sync := none }).closeBreaker b
  else s.setDwell b n

/-- A report shows reverse power (R154). -/
def State.reversePower (s : State) (b : Berth) (kva : Int) : Bool :=
  decide (100 * kva < -((s.set.reverseLimit * (s.bu b).grant : Nat) : Int))

/-- The reverse-power watch (R154). -/
def State.watchReverse (s : State) (b : Berth) (kva : Int) : State :=
  if s.reversePower b kva then
    if s.transfer.reverse.isSome then s
    else s.mapTransfer fun t => { t with reverse := s.after (s.set.reverseTime * 1000) }
  else s.mapTransfer fun t => { t with reverse := none }

/-- The holder's report at the Transfer Unit (R149, R150, R154). -/
def State.passToTransfer (s : State) (b : Berth) (valid : Bool) (r : MeterReport) : State :=
  let quantities := if valid then syncQuantities s.set (s.vn b) (takenReport (s.vn b) r) else none
  match (s.bu b).st with
  | .sync .checking =>
    match quantities with
    | some m => s.checkSync b m
    | none => s.setDwell b 0
  | .sync .closing =>
    match quantities with
    | some m => s.sendMatch b m
    | none => s
  | .parallel => if valid then s.watchReverse b r.power else s
  | _ => s

/-- A report shows overdraw (R178). -/
def State.overdraws (s : State) (b : Berth) (kva : Int) : Bool :=
  decide ((((s.bu b).grant * s.set.overdrawMargin : Nat) : Int) < 100 * kva)

/-- The overdraw watch in ON_SHORE (R178). -/
def State.watchOverdraw (s : State) (b : Berth) (kva : Int) : State :=
  if !(s.bu b).st.isOnShore then s
  else if s.overdraws b kva then
    match (s.pb b).overdraw with
    | some _ => s
    | none =>
      (s.mapPb b fun p =>
        { p with overdraw := some { due := s.now + s.set.overdrawLimit * 1000, grant := (s.bu b).grant, kva := kva } }).send b
          (.warnOverdraw (s.bu b).grant kva)
  else s.mapPb b fun p => { p with overdraw := none }

/-- What a valid report meets at the Berth Unit (R141): the backup mark, the earthing procedure, the cable checks and the release
threshold. -/
def State.meetConditions (s : State) (b : Berth) : State :=
  (((((s.checkBackup b).checkDischarge b).checkEarthing b).checkCable b).checkOpenClose b).checkThreshold b

/-- METER_REPORT (R138 to R141): judged, made current, put to the Berth Unit's conditions, to the Transfer Unit while the berth held
the permit at its arrival, and to the overdraw watch (log 33). -/
def execMeterReport (b : Berth) (r : MeterReport) (s : State) : Host.Outcome State Fault Refusal :=
  .next (s.eventClosing fun s =>
    let valid := reportValid (s.vn b) r
    let held := s.transfer.holder == some b
    let s := if valid then (s.storeReport b r).meetConditions b else s
    let s := if held && s.transfer.holder == some b then s.passToTransfer b valid r else s
    if valid then s.watchOverdraw b r.power else s)

/-- Expiry of the freshness timer: the report is stale, and a dwell under way falls to 0 (R140, R149). -/
def execFreshnessTimerExpiry (b : Berth) (s : State) : Host.Outcome State Fault Refusal :=
  .next (s.event fun s =>
    s.expire (s.bu b).timers.freshness fun s =>
      let s := s.mapBu b fun u => { u with report := none, timers := { u.timers with freshness := none } }
      if s.transfer.holder = some b ∧ (s.bu b).st = .sync .checking then s.setDwell b 0 else s)

/-! ## The Transfer Unit's timers -/

/-- The holder of the permit, where there is one, is acted on. -/
def State.atHolder (s : State) (f : Berth → State → State) : State :=
  match s.transfer.holder with
  | some b => f b s
  | none => s

/-- Expiry of the sync timer: the attempt is abandoned and counted (R23, R152). -/
def execSyncTimerExpiry (s : State) : Host.Outcome State Fault Refusal :=
  .next (s.eventClosing fun s =>
    s.expire s.transfer.sync fun s =>
      (s.mapTransfer fun t => { t with sync := none }).atHolder fun b s =>
        let s := (s.abandonSync b).mapBu b fun u => { u with syncAttempts := u.syncAttempts + 1 }
        if 3 ≤ (s.bu b).syncAttempts then s.fault b .syncFail
        else
          (s.setState b (.ready .awaitShip)).mapTimers b fun t => { t with ready := s.after (s.set.readyLimit * 1000) })

/-- Expiry of the parallel timer: FAULTED (PARALLEL_OVERRUN) (R24, R155). -/
def execParallelTimerExpiry (s : State) : Host.Outcome State Fault Refusal :=
  .next (s.eventClosing fun s =>
    s.expire s.transfer.parallel fun s =>
      (s.mapTransfer fun t => { t with parallel := none }).atHolder fun b s => s.fault b .parallelOverrun)

/-- Expiry of the reverse-power timer: FAULTED (REVERSE_POWER) (R154). -/
def execReversePowerTimerExpiry (s : State) : Host.Outcome State Fault Refusal :=
  .next (s.eventClosing fun s =>
    s.expire s.transfer.reverse fun s =>
      (s.mapTransfer fun t => { t with reverse := none }).atHolder fun b s => s.fault b .reversePower)

/-- Expiry of the gens-on limit: SYNC_ABANDONED, the release, LINE_WAIT and a new entry at the tail of the return class (R160). -/
def execGensOnLimitExpiry (s : State) : Host.Outcome State Fault Refusal :=
  .next (s.eventClosing fun s =>
    s.expire s.transfer.gensOn fun s =>
      (s.mapTransfer fun t => { t with gensOn := none }).atHolder fun b s =>
        (((s.send b .syncAbandoned).releasePermit b).setState b (.returning .lineWait)).requestPermit b .returning false)

/-- Expiry of the return-parallel timer: the breaker is commanded open, FORCED_OPEN (R162). -/
def execReturnParallelTimerExpiry (s : State) : Host.Outcome State Fault Refusal :=
  .next (s.eventClosing fun s =>
    s.expire s.transfer.returnParallel fun s =>
      (s.mapTransfer fun t => { t with returnParallel := none }).atHolder fun b s =>
        (s.openBreaker b).setState b (.returning .forcedOpen))

end Sys2Proof.Machine
end

