-- ==== Sys2Proof/Machine/Protect.lean ====
section
/-! DEFINITION. The Protection Block's events (chapter 7): breaker feedback and supervision, trip inputs, E-stop, backup trip and the
overdraw timer. -/

namespace Sys2Proof.Machine

/-! ## Selected trip -/

/-- An exposed berth under selected trip faults with the cause of the trip (R169). -/
def State.checkTrip (s : State) (b : Berth) : State :=
  match s.exposed b, s.selectedTrip b with
  | true, some c => s.faultOnce b c
  | _, _ => s

/-- A berth that comes under a selected trip by this input is acted on (R168, R169): the cause is the input that caused it. DESIGN
CHOICE (log 67): each newly asserted selected input acts on an exposed berth, also on one that another has under selected trip. -/
def State.tripBy (s : State) (b : Berth) (selected : Bool) (c : FaultCause) : State :=
  if selected && s.exposed b then s.faultOnce b c else s

/-- OWN_TRIP_INPUT_CHANGE (R168, R169). Without supply the wire alone changes. -/
def execOwnTripInputChange (b : Berth) (asserted : Bool) (s : State) : Host.Outcome State Fault Refusal :=
  let before := (s.ln b).ownTrip
  .next ((s.mapLn b fun l => { l with ownTrip := asserted }).eventClosing fun s =>
    if asserted && !before then s.tripBy b ((s.bset b).tripSource != .group) .tripOwn else s)

/-- A group trip bus takes a value. -/
def State.setBus (s : State) (g : Group) (v : Bool) : State :=
  match g with
  | .a => { s with lines := { s.lines with busA := v } }
  | .b => { s with lines := { s.lines with busB := v } }

/-- GROUP_TRIP_BUS_CHANGE at each berth of the group whose trip source takes it (R168, R169). DESIGN CHOICE (log 76): the
berths are acted on from B1 to B6. -/
def execGroupTripBusChange (g : Group) (asserted : Bool) (s : State) : Host.Outcome State Fault Refusal :=
  let before := s.bus g
  .next ((s.setBus g asserted).eventClosing fun s =>
    if asserted && !before then
      eachBerth (fun b s => s.tripBy b ((s.bset b).group == g && (s.bset b).tripSource != .own) .tripGroup) s
    else s)

/-! ## E-stop -/

/-- E-stop opens a breaker that is not reported open or has a close outstanding (R170 step 1). -/
def estopOpen (b : Berth) (s : State) : State :=
  if s.breaker b ≠ .opened ∨ s.closeOutstanding b then s.openBreaker b else s

/-- E-stop is reported to a berth: a connected one faults, one in PROBE is in QUIET (R170 steps 2 and 3). -/
def estopReport (b : Berth) (s : State) : State :=
  match (s.bu b).st with
  | .probe _ => s.setState b (.probe .quiet)
  | st => if st.connected then s.fault b .estop else s

/-- ESTOP_ACTIVE (R170). -/
def execEstopActive (s : State) : Host.Outcome State Fault Refusal :=
  let before := s.lines.estop
  let s := { s with lines := { s.lines with estop := true } }
  .next (s.eventClosing fun s => if before then s else eachBerth estopReport (eachBerth estopOpen s))

/-- A berth in PROBE restarts its quiet timer (R10, R171). -/
def estopEnd (b : Berth) (s : State) : State :=
  match (s.bu b).st with
  | .probe _ => s.beginQuiet b
  | _ => s

/-- ESTOP_INACTIVE: the quiet intervals begin again and waiting tests are assigned (R171, R67). -/
def execEstopInactive (s : State) : Host.Outcome State Fault Refusal :=
  let before := s.lines.estop
  let s := { s with lines := { s.lines with estop := false } }
  .next (s.eventClosing fun s => if before then (eachBerth estopEnd s).assign else s)

/-! ## Backup trip -/

/-- A group's backup holder list is replaced. -/
def State.setHolders (s : State) (g : Group) (hs : List Holder) : State :=
  match g with
  | .a => { s with protect := { s.protect with holdersA := hs } }
  | .b => { s with protect := { s.protect with holdersB := hs } }

/-- A berth joins its group's holder list, once (R175 step 2). DESIGN CHOICE (log 55): an entry that stands there with its cleared mark
keeps the mark. -/
def State.joinHolders (s : State) (b : Berth) (g : Group) : State :=
  if (s.holders g).any (fun h => h.berth == b) then s else s.setHolders g (s.holders g ++ [{ berth := b, cleared := false }])

/-- A change of the berth's entries in both holder lists. -/
def State.mapHolders (s : State) (f : List Holder → List Holder) : State :=
  { s with protect := { s.protect with holdersA := f s.protect.holdersA, holdersB := f s.protect.holdersB } }

/-- The host has cleared the failure: with the breaker reported open the entry leaves, else its cleared mark is set (R176). -/
def State.clearHolder (s : State) (b : Berth) : State :=
  if s.breaker b = .opened then s.mapHolders fun hs => hs.filter fun h => h.berth != b
  else s.mapHolders fun hs => hs.map fun h => if h.berth = b then { h with cleared := true } else h

/-- A position OPEN lets a cleared entry leave (R176). -/
def State.leaveHolders (s : State) (b : Berth) : State :=
  s.mapHolders fun hs => hs.filter fun h => !(h.berth == b && h.cleared)

/-- The backup-pending mark of another berth of the group whose breaker is closed and which is not FAULTED (R175 step 4); a supply
already shown dead faults it at once (R141). -/
def markPending (g : Group) (failed b : Berth) (s : State) : State :=
  if b ≠ failed ∧ (s.bset b).group = g ∧ s.breaker b = .closed ∧ (s.bu b).st ≠ .faulted then
    (s.mapPb b fun p => { p with backupPending := some g }).checkBackup b
  else s

/-- The breaker has failed to open: BREAKER_OPEN, the holder list and its output, the marks (R175). DESIGN CHOICE (log 54): a close
command that is already outstanding at another berth of the group stands. DESIGN CHOICE (log 77): the other berths are marked, and one
whose supply is shown dead faulted, each in its turn from B1 to B6. -/
def State.failOpening (s : State) (b : Berth) : State :=
  let g := (s.bset b).group
  eachBerth (markPending g b) ((s.fault b .breakerOpen).joinHolders b g)

/-- The open command ends, its breaker reported open. -/
def BerthUnit.endOpening (u : BerthUnit) : BerthUnit :=
  { u with breakerCmd := if u.breakerCmd = some .opening then none else u.breakerCmd }

/-- Expiry of the open supervision: a breaker that is not reported open has failed to open (R173, R175). At position OPEN, where a close
had been withdrawn, the open command ends with it (log 11). -/
def execOpenSupervisionExpiry (b : Berth) (s : State) : Host.Outcome State Fault Refusal :=
  .next (s.eventClosing fun s =>
    s.expire (s.pb b).openSup fun s =>
      let s := s.mapPb b fun p => { p with openSup := none }
      if s.breaker b = .opened then s.mapBu b BerthUnit.endOpening else s.failOpening b)

/-- Expiry of the close supervision: the close is withdrawn, BREAKER_CLOSE (R173). -/
def execCloseSupervisionExpiry (b : Berth) (s : State) : Host.Outcome State Fault Refusal :=
  .next (s.eventClosing fun s =>
    s.expire (s.pb b).closeSup fun s =>
      ((s.mapPb b fun p => { p with closeSup := none }).openBreaker b).fault b .breakerClose)

/-! ## Breaker feedback -/

/-- A close command is carried out: SYNC CLOSING leads to PARALLEL under the parallel timer (R21, R153), OPEN_CLOSE to ON_SHORE
(R19), each with CLOSED sent. -/
def State.takeClosure (s : State) (b : Berth) : State :=
  match (s.bu b).st with
  | .sync _ =>
    let s := s.mapTransfer fun t => { t with parallel := s.after (s.set.parallelLimit * 1000), reverse := none }
    (s.setState b .parallel).send b .closed
  | .ready .openClose => (s.send b .closed).enterOnShore b false
  | _ => s

/-- The position becomes CLOSED: the close supervision is cancelled, a close command carried out; a berth newly exposed under
selected trip faults (R169, R173). -/
def State.becomeClosed (s : State) (b : Berth) (commanded exposed : Bool) : State :=
  let s := s.mapPb b fun p => { p with closeSup := none }
  if commanded then (s.mapBu b fun u => { u with breakerCmd := none }).takeClosure b
  else if exposed then s
  else s.checkTrip b

/-- The position becomes OPEN: the open supervision is cancelled, the backup-pending mark cleared (R175), a cleared holder leaves
(R176), a completed return or forced separation ends in RELEASED (R27), and the earthing procedure may go on (R141). -/
def State.becomeOpen (s : State) (b : Berth) : State :=
  let s := s.mapPb b fun p => { p with openSup := none, backupPending := none }
  let s := (s.mapBu b BerthUnit.endOpening).leaveHolders b
  match (s.bu b).st with
  | .returning .separating => s.completeReturn b
  | .returning .forcedOpen => s.completeReturn b
  | _ => s.checkEarthing b

/-- A change of position that no command explains (R174): a supplied berth's breaker leaving CLOSED, or any other berth's leaving
OPEN, where an open command that followed a withdrawn close leaves the position to its supervision (R169, R173; log 11). -/
def State.unexplained (s : State) (b : Berth) (before : BreakerPos) : Option FaultCause :=
  if (s.bu b).st.supplied then
    if before = .closed ∧ (s.bu b).breakerCmd ≠ some .opening then some .tripOwn else none
  else if before = .opened ∧ (s.bu b).breakerCmd = none then some .breakerClose
  else none

/-- An unexplained change faults the berth: TRIP_OWN (R174), or the breaker commanded open with BREAKER_CLOSE. -/
def State.faultUnexplained (s : State) (b : Berth) (c : FaultCause) : State :=
  if c = .tripOwn then s.faultOnce b c else (s.openBreaker b).fault b c

/-- A breaker that has come to CLOSED with its earthing switch not reported open is opened at once (R177; log 32). -/
def State.checkEarthed (s : State) (b : Berth) : State :=
  if s.breaker b = .closed ∧ s.switch b ≠ some .opened then (s.openBreaker b).faultEquipment b .earthSwitch else s

/-- BREAKER_FEEDBACK (R172 to R174): a change of position ends its supervision, bears on bank demand (R113), is acted on by the Berth
Unit, or is unexplained, and meets the earthing switch (R177). DESIGN CHOICE (log 57): at a breaker that closes with no command under
selected trip, the trip faults the berth first and BREAKER_CLOSE then replaces its cause. -/
def execBreakerFeedback (b : Berth) (closed opened : Bool) (s : State) : Host.Outcome State Fault Refusal :=
  let before := s.breaker b
  .next ((s.mapLn b fun l => { l with breakerClosed := closed, breakerOpen := opened }).eventClosing fun s =>
    if s.breaker b = before then s
    else
      let s := s.updateDemand
      let commanded := s.closeOutstanding b
      let exposed := before == .closed || commanded
      let odd := s.unexplained b before
      let s := match s.breaker b with
        | .closed => s.becomeClosed b commanded exposed
        | .opened => s.becomeOpen b
        | .unknown => s
      let s := match odd with
        | some c => s.faultUnexplained b c
        | none => s
      s.checkEarthed b)

/-! ## Overdraw -/

/-- Expiry of the overdraw timer: the breaker commanded open, FAULTED (OVERDRAW) (R178). -/
def execOverdrawTimerExpiry (b : Berth) (s : State) : Host.Outcome State Fault Refusal :=
  .next (s.eventClosing fun s =>
    s.expire ((s.pb b).overdraw.map OverdrawWatch.due) fun s =>
      ((s.mapPb b fun p => { p with overdraw := none }).openBreaker b).fault b .overdraw)

end Sys2Proof.Machine
end

