-- ==== Sys2Proof/Machine/Store.lean ====
section
/-! DEFINITION. The Settings Store: the end of a write (R204), the effects of new settings (R205, R84, R135), and AUXILIARY_SUPPLY_LOSS
(R204, R166). -/

namespace Sys2Proof.Machine

/-! ## New settings in force (R205) -/

/-- The native limit: the working limit is set anew, and its rise starts a scan (R84). -/
def State.applyNative (s : State) (old : Settings) : State :=
  if s.set.nativeLimit = old.nativeLimit then s
  else
    let before := s.budget.working
    let s := s.mapBudget fun f => { f with working := s.limitOf }
    if before < s.budget.working then s.startScan else s

/-- A module's record when the installed range changes (R135). -/
def rangeRecord (old new : Settings) (m : Module) (r : ModuleRec) : ModuleRec :=
  match moduleInstalled old m, moduleInstalled new m with
  | true, false => .withdrawn .absent
  | false, true => .withdrawn .proofPending
  | _, _ => r

/-- The installed range has changed. DESIGN CHOICE (log 65): which modules are installed is what counts, so a change of the modules
installed setting while converter installed is no hands nothing over. -/
def rangeDiffers (old new : Settings) : Bool := Module.all.any fun m => moduleInstalled old m != moduleInstalled new m

/-- The installed range changes: modules become ABSENT or PROOF_PENDING, the history is handed over (R135, R132), and a test that
was stopped lets the next one begin (R126). -/
def State.applyRange (s : State) (old : Settings) : State :=
  if rangeDiffers old s.set then
    let bank := s.bank
    let s := Module.all.foldl (fun s m => s.mapModule m (rangeRecord old s.set m)) s
    let s := s.mapBank fun k => { k with proofList := k.proofList.filter fun m => moduleInstalled s.set m }
    (((s.reportModules bank).handChanged bank true).recover).afterProof
  else s

/-- The suspension threshold: the mark is recomputed (R123). -/
def State.applyThreshold (s : State) (old : Settings) : State :=
  if s.set.suspThreshold = old.suspThreshold then s else s.recount

/-- The detection source: presence recomputed (R4). -/
def applyDetection (old : Settings) (b : Berth) (s : State) : State :=
  s.checkPresence b (presentBy (old.berth.get b).detection (s.ln b))

/-- Trip source and group: a berth that comes under selected trip is handled as if the input had just been asserted (R168).
DESIGN CHOICE (log 79): where the APPLY brings it under both inputs at once the cause is TRIP_OWN. -/
def applyTrip (old : Settings) (b : Berth) (s : State) : State :=
  let o := old.berth.get b
  let wasOwn := o.tripSource != .group && (s.ln b).ownTrip
  let wasGroup := o.tripSource != .own && s.bus o.group
  if wasOwn || wasGroup then s else s.checkTrip b

/-- Outlet rating: effective bids recomputed and the ADMIT entry updated in place (R87, R205). -/
def applyRating (old : Settings) (b : Berth) (s : State) : State :=
  if (s.bset b).outletRating = (old.berth.get b).outletRating then s
  else
    match (s.bu b).bidMin, (s.bu b).bidFull with
    | some lo, some hi =>
      let full := fullOf hi (s.bset b).outletRating
      let mn := minOf lo full
      (s.mapBu b fun u => { u with fullEff := some full, minEff := some mn }).updateEntry b fun e =>
        if e.kind = .admission then { e with sought := full, minimum := mn } else e
    | _, _ => s

/-- Voltage class: where a berth's setting has changed, its berth in TEST or QUEUED whose class no longer matches faults
(R205). DESIGN CHOICE (log 75): a condition on Vn that the current report shows under the new class alone is met at the next report or
other event that looks at it. -/
def applyClass (old : Settings) (b : Berth) (s : State) : State :=
  let waits := match (s.bu b).st with
    | .test _ => true
    | .queued => true
    | _ => false
  let changed := (s.bset b).vclass != (old.berth.get b).vclass
  if changed && waits && (s.bu b).vclass.any (· != (s.bset b).vclass) then s.fault b .classMismatch else s

/-- The new settings take effect at their owners (R205). DESIGN CHOICE (log 62): the effects come in the order in which R205 lists them,
each over the berths from B1 to B6, so that of several faults of one berth the first in that order is recorded as its entry's cause.
DESIGN CHOICE (log 66): the scan that a new count or a lifted mark calls for closes them, on the settings as all of them stand. -/
def State.takeSettings (s : State) (new : Settings) : State :=
  let old := s.set
  let bank := s.bank
  let s := s.mapStore fun t => { t with inForce := new }
  let s := ((s.applyNative old).applyRange old).applyThreshold old
  let s := eachBerth (applyTrip old) (eachBerth (applyDetection old) s)
  (eachBerth (applyClass old) (eachBerth (applyRating old) s)).scanReported bank

/-! ## The end of a write (R204) -/

/-- A written copy becomes the stored record. -/
def SettingsStore.keep (t : SettingsStore) : StoreWrite → SettingsStore
  | .settings r _ => { t with storedSettings := r, settingsSound := true }
  | .history h => { t with storedHistory := h, historySound := true }
  | .target k => { t with storedTarget := some k, targetSound := true }

/-- The next waiting write begins. -/
def State.nextWrite (s : State) : State :=
  match s.store.waiting with
  | w :: rest => s.mapStore fun t => { t with running := some w, waiting := rest, writeLimit := s.after Config.writeMs }
  | [] => s.mapStore fun t => { t with running := none, writeLimit := none }

/-- After the write of a record that changes a budget setting one scan runs (R203; log 22). -/
def State.releaseScans (s : State) (w : StoreWrite) : State :=
  if w.holdsScans then (s.mapBudget fun f => { f with scans := [] }).startScan else s

/-- The running write ends with its test passed or not (R204). DESIGN CHOICE (log 61): the next waiting write begins before the new
settings take effect, so that a module history they hand over waits behind an older copy then begun. -/
def State.endWrite (s : State) (passed : Bool) : State :=
  match s.store.running with
  | none => s
  | some w =>
    if passed then
      let s := ((s.mapStore fun t => t.keep w).post (.storeDone w.kind)).nextWrite
      let s := match w with
        | .settings r _ => s.takeSettings r
        | _ => s
      s.releaseScans w
    else ((s.post (.storeFailed w.kind)).nextWrite).releaseScans w

/-- STORE_WRITE_COMPLETE (R204). -/
def execStoreWriteComplete (passed : Bool) (s : State) : Host.Outcome State Fault Refusal :=
  .next (s.eventClosing fun s => s.endWrite passed)

/-- Expiry of the write limit: STORE_FAILED (R204). -/
def execWriteLimitExpiry (s : State) : Host.Outcome State Fault Refusal :=
  .next (s.event fun s => s.expire s.store.writeLimit fun s => s.endWrite false)

/-! ## Loss of auxiliary supply -/

/-- The Settings Store through a loss of supply: the stored records stay as they are, a write under way is lost (R204). -/
def SettingsStore.unpowered (t : SettingsStore) : SettingsStore := { t with running := none, writeLimit := none, waiting := [] }

/-- AUXILIARY_SUPPLY_LOSS: what is not stored is lost and the outputs are released (R166, R204); the wires stand as they are
(log 4). -/
def execAuxiliarySupplyLoss (s : State) : Host.Outcome State Fault Refusal :=
  .next { State.reset with powered := false, now := s.now, lines := s.lines, store := s.store.unpowered, pending := s.pending }

end Sys2Proof.Machine
end

