-- ==== Sys2Proof/Machine/Start.lean ====
section
/-! DEFINITION. Start-up (chapter 8): what each kind of start leaves in each block (R2, R133, R134, Table 8-2), the placement of the
berths (R183, R184), the adopted grants and the fill (R185, R186), the resume calls (R187), and the meanings of COLD_START and
START_WINDOW_CLOSE. -/

namespace Sys2Proof.Machine

/-! ## What a start leaves in each block -/

/-- A Berth Record after a start: Table 1-3, a warm restart keeping the last fault cause and the last measured kVA (R2).
DESIGN CHOICE (log 82): a breaker, switch or selector command still outstanding at a warm restart is dropped. -/
def BerthUnit.started (k : StartKind) (u : BerthUnit) : BerthUnit :=
  match k with
  | .cold => .cold
  | .warm => { BerthUnit.cold with lastFault := u.lastFault, lastKva := u.lastKva, reportAt := u.reportAt }

/-- A berth's part of the Protection Block after a start, its positions read from the feedback (Table 7-1, R177). -/
def ProtBerth.started (l : BerthLines) : ProtBerth :=
  { closeSup := none, openSup := none, backupPending := none, switchConfirmed := l.switch, selectorConfirmed := l.selector,
    switchDisagree := none, selectorDisagree := none, overdraw := none }

/-- The Protection Block after a start: a warm restart keeps the holder lists (R166). -/
def Protection.started (k : StartKind) (l : Lines) (p : Protection) : Protection :=
  { berth := .ofFn fun b => ProtBerth.started (l.berth.get b)
    holdersA := if k = .warm then p.holdersA else []
    holdersB := if k = .warm then p.holdersB else [] }

/-- The Test Dispatcher after a start (R65, R77, R78). -/
def TestDispatcher.started (k : StartKind) (t : TestDispatcher) : TestDispatcher :=
  match k with
  | .cold => .cold
  | .warm => { TestDispatcher.cold with results := t.results, lastGood := t.lastGood }

/-- The Feeder Budget Unit after a start, before the fill (R83, R182). -/
def FeederBudget.started (limit : Nat) (target : Option CurtailTarget) : FeederBudget :=
  { working := limit, target := target, pendingMark := false, seqCounter := 0, joinCounter := 0, queue := [], scans := [],
    wanted := [] }

/-- A module's record after a start (R133): by the stored history, else by its strike at a warm restart. -/
def startModule (k : StartKind) (installed : Bool) (h : History) (r : ModuleRec) : ModuleRec :=
  if !installed then .withdrawn .absent
  else
    match h with
    | .retired => .withdrawn .retired
    | .proofPending => .withdrawn .proofPending
    | .normal =>
      if k = .warm ∧ r.strike = 1 then { ModuleRec.withdrawn .watch with strike := 1 } else .withdrawn .inService

/-- The Module Table built at a start (R133). -/
def startTable (k : StartKind) (set : Settings) (h : PerModule History) (ms : PerModule ModuleRec) : PerModule ModuleRec :=
  .ofFn fun m => startModule k (moduleInstalled set m) (h.get m) (ms.get m)

/-- The bank at a start: RUNNING with its counted modules run where a ship is on the converter bus, else STOPPED; BANK is posted and
a recovery start may follow (R134). Before BANK a warm restart posts MODULE for each module whose state or strike the new table has
changed (R136). DEDUCED (log 27): at a cold start no record stood before, so nothing has changed. -/
def State.startBank (s : State) (k : StartKind) (ms : PerModule ModuleRec) : State :=
  let demand := s.demandNow
  let st : BankState := if demand = 0 then .stopped else .running
  let run (r : ModuleRec) : ModuleRec := if st = .running ∧ r.st.counted then { r with cmd := .run } else r
  let old := s.bank.modules
  let s := s.mapBank fun _ =>
    { st := st, settle := none, idleStop := none, stopDue := false, demand := demand, modules := ms.map run, proofList := [],
      counted := 0, suspended := false }
  let s := s.recount
  let s := match k with
    | .cold => s
    | .warm => s.postModules old
  (s.post (.bank st s.bank.demand s.bank.counted)).recover

/-! ## Placement -/

/-- A berth stands in a backup holder list. -/
def State.isHolder (s : State) (b : Berth) : Bool :=
  s.protect.holdersA.any (fun h => h.berth == b) || s.protect.holdersB.any fun h => h.berth == b

/-- Where a berth is placed (R166, R183, Table 8-1). -/
def State.placement (s : State) (b : Berth) (defaulted : Bool) : BState :=
  if s.isHolder b then .faulted
  else
    match s.breaker b with
    | .closed => .adopted
    | .unknown => .faulted
    | .opened => if defaulted then .blocked else if s.present b then .probe .quiet else .vacant

/-- A placement: the state without a transition, its notice, and the equipment's part (R183). -/
def placeBerth (defaulted : Bool) (b : Berth) (s : State) : State :=
  let st := s.placement b defaulted
  let s := (s.takeState b st).post (.berthState b st 0)
  match s.breaker b with
  | .opened =>
    let s := if st = .probe .quiet then s.mapTimers b fun t => { t with quiet := s.after Config.quietMs } else s
    s.startEarthing b
  | .unknown => if s.isHolder b then s else s.openBreaker b
  | .closed => s

/-- The FAULT notice of a berth placed in FAULTED: a holder's kept cause, or BREAKER_CLOSE (R183, R191). -/
def faultPlaced (b : Berth) (s : State) : State :=
  if s.isHolder b then
    match (s.bu b).lastFault with
    | some c => s.post (.fault b c)
    | none => s
  else if s.breaker b = .unknown then s.recordCause b .breakerClose
  else s

/-- The Protection Block's act on a berth placed in ADOPTED, on the inputs read (R184). DESIGN CHOICE (log 60): of several of them the
first of E-stop, pilot loop and selected trip gives the cause. -/
def protectPlaced (b : Berth) (s : State) : State :=
  if (s.bu b).st ≠ .adopted then s
  else if s.lines.estop then s.fault b .estop
  else if (s.ln b).pilotContinuous = false then (s.superviseOpening b).fault b .pilotOpen
  else
    match s.selectedTrip b with
    | some c => s.fault b c
    | none =>
      let g := (s.bset b).group
      if s.output g then s.mapPb b fun p => { p with backupPending := some g } else s

/-! ## The start window and the fill -/

/-- The berth is in ADOPTED. -/
def State.adopted (s : State) (b : Berth) : Bool := (s.bu b).st == .adopted

/-- Every berth still in ADOPTED has a current report (R185). -/
def State.adoptedMeasured (s : State) : Bool := Berth.all.all fun b => !s.adopted b || (s.bu b).report.isSome

/-- The adopted grant: from the current report, at a warm restart the kept last measured kVA above 0, or the outlet rating
(R185). DESIGN CHOICE (log 80): the kept last measured kVA is the field as it stands at the close, so a report of the window that has
gone stale counts. -/
def State.adoptedGrant (s : State) (k : StartKind) (b : Berth) : Nat :=
  match (s.bu b).report with
  | some r => adoptedGrantOf r.power
  | none =>
    if k = .warm ∧ 0 < (s.bu b).lastKva then adoptedGrantOf (s.bu b).lastKva
    else adoptedGrantOf ((s.bset b).outletRating : Int)

/-- One adopted berth's turn in the feeder fill: granted while the sum stays within the native limit, else noted for shedding
(R186 step 1). -/
def fillTurn (k : StartKind) (acc : State × List FillLine) (b : Berth) : State × List FillLine :=
  let s := acc.1
  let g := s.adoptedGrant k b
  let d := drawOf (s.cls b) s.set.eff g
  let s := s.mapBu b fun u => { u with adoptedMark := !u.answered }
  if s.drawSum + d ≤ s.set.nativeLimit then
    let s := s.takeSeq
    (s.regrant b g (some s.budget.seqCounter), acc.2 ++ [{ berth := b, grant := g, draw := d, outcome := .granted }])
  else (s, acc.2 ++ [{ berth := b, grant := g, draw := d, outcome := .shedByFeeder }])

/-- The working limit and the pending mark after the feeder fill (R186 step 2). -/
def State.fillLimit (s : State) : State :=
  match s.budget.target with
  | none => s.mapBudget fun f => { f with working := s.set.nativeLimit, pendingMark := false }
  | some t =>
    let w := min s.set.nativeLimit (max t.kva s.drawSum)
    s.mapBudget fun f => { f with working := w, pendingMark := decide (t.kva < w) }

/-- One berth's turn in the converter shed, the last number first (R186 step 3). -/
def converterTurn (acc : State × List Berth) (b : Berth) : State × List Berth :=
  if acc.1.sum60 ≤ acc.1.capacity ∨ acc.1.cls b ≠ .f60 ∨ (acc.1.bu b).grant = 0 then acc
  else (acc.1.regrant b 0 none, acc.2 ++ [b])

/-- A line of START for a berth the converter shed took (R191). -/
def FillLine.shedIn (shed : List Berth) (l : FillLine) : FillLine :=
  if shed.contains l.berth then { l with outcome := .shedByConverter } else l

/-- The resume CALL and the contact limit of a berth still in ADOPTED and unanswered (R187). -/
def resumeCall (b : Berth) (s : State) : State :=
  if s.unanswered b then
    (s.mapTimers b fun t => { t with contact := s.after (s.set.contactLimit * 1000) }).sendCall b true
  else s

/-- The start-up fill as one event (R186), START (R191), and the resume calls (R187). -/
def State.fill (s : State) (c : StartCourse) : State :=
  let berths := Berth.all.filter s.adopted
  let s := s.mapTransfer fun t => { t with resumeRound := !berths.isEmpty }
  let filled := berths.foldl (fillTurn c.kind) (s, [])
  let granted := filled.1.fillLimit
  let cut := berths.reverse.foldl converterTurn (granted, [])
  let lines := filled.2.map (FillLine.shedIn cut.2)
  let s := (filled.2.filter fun l => l.outcome == .shedByFeeder).foldl
    (fun s l => s.actOnShed l.berth l.grant) cut.1
  let s := cut.2.foldl (fun s b => s.actOnShed b (granted.bu b).grant) s
  let s := (s.updateDemand).stepDown
  let s := s.owe (.start c.kind c.defaulted lines s.budget.working s.budget.pendingMark)
  eachBerth resumeCall { s with start := none }

/-- The start window closes (R185). -/
def State.closeWindow (s : State) : State :=
  match s.start with
  | none => s
  | some c => s.fill c

/-- START_WINDOW_CLOSE (R185), with the close of the resume round where every adopted berth had answered before it (R189): the grants of
the fill are then those held before the close (log 24). -/
def execStartWindowClose (s : State) : Host.Outcome State Fault Refusal :=
  .next (match s.powered, s.start with
    | true, some c =>
      let t := (if s.adoptedMeasured then s else { s with now := max s.now c.window }).closeWindow.endEvent s
      (t.closeRound t).endEvent t
    | _, _ => s)

/-! ## The course of a start -/

/-- The module history a start reads: every module PROOF_PENDING where the record failed its check (R133, R182). -/
def SettingsStore.historyRead (t : SettingsStore) : PerModule History :=
  if t.historySound then t.storedHistory else .const .proofPending

/-- The blocks set to their values for this kind of start (Table 8-2). DESIGN CHOICE (log 64): a grant, a draw or a number that a warm
restart sets back to its value of Table 1-3 posts no GRANT notice. -/
def State.startBlocks (s : State) (k : StartKind) : State :=
  let s := { s with
    powered := true
    berths := .ofFn fun b => (s.bu b).started k
    channels := .ofFn fun b => (s.ch b).restart
    tests := s.tests.started k
    transfer := .started
    protect := s.protect.started k s.lines
    start := none }
  s.mapBudget fun f => .started s.limitOf f.target

/-- The course of a start from loading to the opening of the start window, which closes at once where no berth is adopted
(R182 to R185). -/
def State.runStart (s : State) (k : StartKind) (defaulted : Bool) : State :=
  let table := startTable k s.set s.store.historyRead s.bank.modules
  let s := s.startBlocks k
  let s := if defaulted then s.post .settingsDefaulted else s
  let s := s.startBank k table
  let s := eachBerth faultPlaced (eachBerth (placeBerth defaulted) s)
  let s := eachBerth protectPlaced s
  let s := { s with start := some { kind := k, defaulted := defaulted, window := s.now + Config.windowMs } }
  if Berth.all.any s.adopted then s else s.closeWindow

/-- The Settings Store's load at a cold start: each record that fails its check is taken as the rule gives (R182). -/
def SettingsStore.load (t : SettingsStore) (settings : Bool) : SettingsStore :=
  { t with inForce := if settings then t.storedSettings else .default, running := none, writeLimit := none, waiting := [] }

/-- The stored target as a cold start takes it (R106, R182). -/
def SettingsStore.targetRead (t : SettingsStore) (passes : Bool) : Option CurtailTarget :=
  if passes then t.storedTarget.map fun k => { kva := k, mark := .persistent } else none

/-- COLD_START (R182): the three records are loaded and judged, every block set, each berth placed. The operands say which records
pass their check; a record found unsound before stays so (log 39). -/
def execColdStart (settingsPass historyPass targetPass : Bool) (s : State) : Host.Outcome State Fault Refusal :=
  let okSettings := settingsPass && s.store.settingsSound
  let okHistory := historyPass && s.store.historySound
  let okTarget := targetPass && s.store.targetSound
  let t := s.store
  let s := { s with
    port := .cold
    budget := .started 0 (t.targetRead okTarget)
    bank := { s.bank with modules := .const (.withdrawn .absent) }
    store := { t.load okSettings with
      settingsSound := okSettings, historySound := okHistory, targetSound := okTarget } }
  let t := s.runStart .cold (!okSettings)
  .next (t.endEvent s)

/-- What RESTART leaves of the port: the orders behind it are discarded, the prepared flag cleared (R191). -/
def SupervisoryPort.restarted (p : SupervisoryPort) : SupervisoryPort :=
  { p with slots := p.slots.filter Slot.taken, prepared := false }

/-- A warm restart (R182): nothing is loaded; settings, target and history as last written are kept. DESIGN CHOICE (log 70): it counts as
a start with settings not defaulted, also where the cold start before it defaulted them and no APPLY has written the record since. -/
def State.warmRestart (s : State) : State := (s.mapPort SupervisoryPort.restarted).runStart .warm false

end Sys2Proof.Machine
end

