-- ==== Sys2Proof/Machine/Orders.lean ====
section
/-! DEFINITION. The Supervisory Link Port (chapter 9): the arrival and sending of frames (R193, R194, R199), the taking of an order with
the prepare sequence (R195 to R197), and the meaning of each order with the data of each query. -/

namespace Sys2Proof.Machine

/-! ## Frames -/

/-- The port holds an immediate reply, waiting or being sent (R194). -/
def SupervisoryPort.immediateHeld (p : SupervisoryPort) : Bool :=
  p.replies.any ReplyFrame.immediate ||
    match p.sending with
    | some (.reply r) => r.immediate
    | _ => false

/-- An immediate reply is formed, or the order discarded without reply where one is held (R194). -/
def State.replyAtOnce (s : State) (tag : Byte) (r : Reply) : State :=
  if s.port.immediateHeld then s else s.formReply { tag := tag, immediate := true, reply := r }

/-- The order a frame spells: none where its tag is 0, its kind is no order kind or its length is not its kind's (R193). -/
def orderOfFrame (tag kind : Byte) (body : List Byte) : Option Slot :=
  match orderOfCode kind with
  | some k => if tag = 0 ∨ body.length ≠ orderLength k then none else some { tag := tag, kind := k, body := body, taken := false }
  | none => none

/-- A frame that passes its check is answered REFUSED (RANGE), enters a slot, or is answered FULL (R193, R194). -/
def State.judgeFrame (s : State) (tag kind : Byte) (body : List Byte) : State :=
  match orderOfFrame tag kind body with
  | none => s.replyAtOnce tag (.refused kind .range)
  | some o =>
    if s.port.slots.length < Config.orderSlots then s.mapPort fun p => { p with slots := p.slots ++ [o] }
    else s.replyAtOnce tag (.full kind)

/-- HOST_FRAME_RECEIVED (R193, R194). -/
def execHostFrameReceived (tag kind : Byte) (body : List Byte) (s : State) : Host.Outcome State Fault Refusal :=
  .next (s.event fun s => (s.mapPort fun p => { p with held := takePort p.held }).judgeFrame tag kind body)

/-- A received frame is discarded; the framer hunts on in what it held (R193). -/
def execHostFrameDiscarded (held : List Byte) (s : State) : Host.Outcome State Fault Refusal :=
  .next (s.event fun s => s.mapPort fun p => { p with held := huntPort held })

/-- A gap discards a partly received frame (R193). -/
def execHostFrameGap (s : State) : Host.Outcome State Fault Refusal :=
  .next (s.event fun s => s.mapPort fun p => { p with held := [] })

/-- The end of a frame: the reply to a taken order frees its slot (R194). -/
def SupervisoryPort.endFrame (p : SupervisoryPort) : SupervisoryPort :=
  match p.sending with
  | some (.reply r) => { p with sending := none, slots := if r.immediate then p.slots else p.slots.drop 1 }
  | some (.notice _) => { p with sending := none }
  | none => p

/-- HOST_FRAME_SENT (R199). -/
def execHostFrameSent (s : State) : Host.Outcome State Fault Refusal :=
  .next (s.event fun s => s.mapPort fun p => p.endFrame.kick)

/-! ## Taking an order -/

/-- The oldest order not yet taken (R195). -/
def State.oldestOrder (s : State) : Option Slot := s.port.slots.find? fun o => !o.taken

/-- The oldest order not yet taken is marked taken. -/
def markTaken : List Slot → List Slot
  | [] => []
  | o :: os => if o.taken then o :: markTaken os else { o with taken := true } :: os

/-- APPLY and CENSUS, which PREPARE must precede (R196). -/
def OrderKind.needsPrepare : OrderKind → Bool
  | .apply | .census => true
  | _ => false

/-- What taking an order does to the two flags (R196). -/
def SupervisoryPort.prepareStep (k : OrderKind) (p : SupervisoryPort) : SupervisoryPort :=
  { p with prepared := k == .prepare
           sequenceError := p.sequenceError || (if k.needsPrepare then !p.prepared else p.prepared) }

/-- An order is taken: the oldest one, if it is of this kind and no start is in progress. The prepare sequence is applied, the reply
formed, and then the effect takes place unless the order is refused (R195 to R197; log 8, log 28). -/
def State.takeOrder (s : State) (k : OrderKind) (mine : List Byte → Bool) (reply : State → List Byte → Reply)
    (effect : List Byte → State → State) : State :=
  match s.oldestOrder with
  | none => s
  | some o =>
    if s.start.isSome ∨ o.kind ≠ k ∨ mine o.body = false then s
    else
      let broken := k.needsPrepare && !s.port.prepared
      let s := s.mapPort fun p => { p with slots := markTaken p.slots }.prepareStep k
      let r := if broken then .refused (orderCode k) .sequence else reply s o.body
      let s := s.formReply { tag := o.tag, immediate := false, reply := r }
      match r with
      | .refused _ _ => s
      | _ => effect o.body s

/-- Any body is this row's. -/
def anyBody (_ : List Byte) : Bool := true

/-- The meaning of an order, which may leave no berth unanswered in a resume round (R187). -/
def orderEvent (k : OrderKind) (mine : List Byte → Bool) (reply : State → List Byte → Reply) (effect : List Byte → State → State)
    (s : State) : Host.Outcome State Fault Refusal :=
  .next (s.eventClosing fun s => s.takeOrder k mine reply effect)

/-- A query: OK with data, no effect (R198). -/
def query (k : OrderKind) (data : State → ReplyData) (s : State) : Host.Outcome State Fault Refusal :=
  orderEvent k anyBody (fun s _ => .ok (orderCode k) (data s)) (fun _ s => s) s

/-- An order on a berth: NO_SUCH where the body names none (R197), STATE where the owner refuses it, else OK. -/
def berthReply (k : OrderKind) (taken : State → Berth → Bool) (s : State) (body : List Byte) : Reply :=
  match berthOperand body with
  | none => .refused (orderCode k) .noSuch
  | some b => if taken s b then .ok (orderCode k) .none else .refused (orderCode k) .state

/-- The effect of an order on the berth its body names. -/
def atBerth (f : State → Berth → State) (body : List Byte) (s : State) : State :=
  match berthOperand body with
  | some b => f s b
  | none => s

/-! ## Queries -/

/-- QUERY_UNIT data (R198). -/
def State.unitReport (s : State) : UnitReport :=
  { native := s.set.nativeLimit, working := s.budget.working, target := s.budget.target, pendingMark := s.budget.pendingMark,
    reserve := s.set.reserve, drawSum := s.drawSum, headroom := s.terminalHeadroom, counted := s.bank.counted, bank := s.bank.st,
    holder := s.transfer.holder, estop := s.lines.estop, busA := s.lines.busA, busB := s.lines.busB, outputA := s.output .a,
    outputB := s.output .b, holdersA := s.protect.holdersA, holdersB := s.protect.holdersB, noticeCounter := s.port.counter,
    notices := s.port.notices.length, prepared := s.port.prepared, sequenceError := s.port.sequenceError,
    overflow := s.port.overflow }

/-- QUERY_UNIT (R198): the sequence error and overflow flags are cleared once the reply has been formed. -/
def execQueryUnit (s : State) : Host.Outcome State Fault Refusal :=
  orderEvent .queryUnit anyBody (fun s _ => .ok (orderCode .queryUnit) (.unit s.unitReport))
    (fun _ s => s.mapPort fun p => { p with sequenceError := false, overflow := false }) s

/-- The times left on a berth's timers. -/
def BerthTimers.left (now : Nat) (t : BerthTimers) : BerthTimers :=
  { quiet := remaining now t.quiet, contact := remaining now t.contact, retest := remaining now t.retest,
    selector := remaining now t.selector, earthSwitch := remaining now t.earthSwitch, discharge := remaining now t.discharge,
    cable := remaining now t.cable, ready := remaining now t.ready, answer := remaining now t.answer,
    takeBack := remaining now t.takeBack, freshness := remaining now t.freshness }

/-- QUERY_BERTH data (R181, R198). DESIGN CHOICE (log 83): the berth's timers are those of its Berth Unit and of its part of the
Protection Block; the channel's loss, shore beacon and call repeat timers are left out. -/
def State.berthReport (s : State) (b : Berth) : BerthReport :=
  let u := s.bu b
  let p := s.pb b
  { berth := b, record := u, permit := s.permit b, queueEntry := s.queueEntry b, passOver := s.passOver b, link := (s.ch b).link,
    reportAge := u.reportAt.map fun t => s.now - t, beacon := (s.ch b).beacon, result := s.tests.results.get b,
    pilotContinuous := (s.ln b).pilotContinuous, ownTrip := (s.ln b).ownTrip, breaker := s.breaker b, protection := p,
    remaining :=
      { timers := u.timers.left s.now, closeSup := remaining s.now p.closeSup, openSup := remaining s.now p.openSup,
        switchDisagree := remaining s.now p.switchDisagree, selectorDisagree := remaining s.now p.selectorDisagree,
        overdraw := remaining s.now (p.overdraw.map OverdrawWatch.due) } }

/-- The reply to QUERY_BERTH (R197, R198). -/
def queryBerthReply (s : State) (body : List Byte) : Reply :=
  match berthOperand body with
  | none => .refused (orderCode .queryBerth) .noSuch
  | some b => .ok (orderCode .queryBerth) (.berth (s.berthReport b))

/-- QUERY_BERTH (R198). -/
def execQueryBerth (s : State) : Host.Outcome State Fault Refusal :=
  orderEvent .queryBerth anyBody queryBerthReply (fun _ s => s) s

/-- An entry would be passed by in a scan run now (R93, R97, R111). -/
def State.passedBy (s : State) (e : AdmEntry) : Bool :=
  match e.kind with
  | .admission => s.cls e.berth == .f60 && s.bank.counted == 0
  | .topup => (s.bu e.berth).st == .onShore .linkHold || (s.cls e.berth == .f60 && s.bank.suspended)

/-- QUERY_QUEUE data (R111). -/
def State.queueReport (s : State) : QueueReport :=
  { entries := s.budget.queue.map fun e => { entry := e, passedBy := s.passedBy e }, seqCounter := s.budget.seqCounter }

/-- QUERY_QUEUE (R111). -/
def execQueryQueue (s : State) : Host.Outcome State Fault Refusal := query .queryQueue (fun s => .queue s.queueReport) s

/-- QUERY_PERMIT data (R165). -/
def State.permitReport (s : State) : PermitReport :=
  let t := s.transfer
  { holder := t.holder.map fun b => (b, (s.bu b).st)
    sync := remaining s.now t.sync, parallel := remaining s.now t.parallel, reverse := remaining s.now t.reverse,
    gensOn := remaining s.now t.gensOn, returnParallel := remaining s.now t.returnParallel
    dwell := match t.holder with
      | some b => t.dwell.get b
      | none => 0
    lastMatch := t.lastMatch
    line := t.line.map fun e => (e.berth, e.cls)
    thresholds := Berth.all.filterMap fun b =>
      if (s.bu b).st.isReturning then (t.threshold.get b).map fun n => (b, n) else none }

/-- QUERY_PERMIT (R165). -/
def execQueryPermit (s : State) : Host.Outcome State Fault Refusal := query .queryPermit (fun s => .permit s.permitReport) s

/-- A test unit as QUERY_TESTS reports it (R82). -/
def UnitRec.line (r : UnitRec) : UnitLine := { status := r.status, serving := r.berth.map fun b => (b, r.attempt, r.index) }

/-- QUERY_TESTS data (R82). -/
def State.testsReport (s : State) : TestsReport :=
  { queue := s.tests.queue, unitA := s.tests.unitA.line, unitB := s.tests.unitB.line, results := s.tests.results,
    lastGood := s.tests.lastGood }

/-- QUERY_TESTS (R82). -/
def execQueryTests (s : State) : Host.Outcome State Fault Refusal := query .queryTests (fun s => .tests s.testsReport) s

/-- QUERY_MODULES data (R137). -/
def State.modulesReport (s : State) : ModulesReport :=
  let k := s.bank
  { bank := k.st, demand := k.demand, stopDue := k.stopDue, settle := remaining s.now k.settle,
    idleStop := remaining s.now k.idleStop, counted := k.counted, capacity := s.capacity, suspended := k.suspended,
    modules := k.modules.map fun r =>
      { st := r.st, strike := r.strike, restartRemaining := remaining s.now r.restartLimit,
        proofRemaining := remaining s.now r.proofLimit },
    proofList := k.proofList }

/-- QUERY_MODULES (R137). -/
def execQueryModules (s : State) : Host.Outcome State Fault Refusal := query .queryModules (fun s => .modules s.modulesReport) s

/-- READ_SETTINGS (R198): the settings in force and the write mark. -/
def execReadSettings (s : State) : Host.Outcome State Fault Refusal :=
  query .readSettings (fun s => .settings s.set s.writeInHand) s

/-! ## CURTAIL -/

/-- The reply to CURTAIL: RANGE on its mark or its target (R197), CLAMPED with the working limit it sets, or OK (R101, R102). -/
def curtailReply (s : State) (body : List Byte) : Reply :=
  let t := halfAt body 0
  match markOfCode (byteAt body 2) with
  | none => .refused (orderCode .curtail) .range
  | some _ =>
    if t < 500 ∨ 20000 < t then .refused (orderCode .curtail) .range
    else if s.curtailClamped t then .clamped (orderCode .curtail) (.workingLimit (s.curtailedWorking t))
    else .ok (orderCode .curtail) .none

/-- The effect of CURTAIL (R101, R102, R106). -/
def curtailEffect (body : List Byte) (s : State) : State :=
  match markOfCode (byteAt body 2) with
  | some m => s.curtail (halfAt body 0) m
  | none => s

/-- CURTAIL (R101, R102). -/
def execCurtail (s : State) : Host.Outcome State Fault Refusal := orderEvent .curtail anyBody curtailReply curtailEffect s

/-! ## RELEASE -/

/-- RELEASE without FORCE by state (Table 1-4). -/
def State.releaseByState (s : State) (b : Berth) : State :=
  let pend (s : State) : State := s.mapBu b fun u => { u with releasePending := true }
  match (s.bu b).st with
  | .probe _ => s.releaseBerth b
  | .test _ => s.releaseBerth b
  | .queued => s.releaseBerth b
  | .ready _ => (if (s.bu b).grantSent then s.sendGrantZero b else s).releaseBerth b
  | .sync _ => (s.abandonSync b).releaseBerth b
  | .parallel => pend s
  | .onShore .supplied => s.orderTakeback b
  | .onShore .linkHold => pend s
  | .adopted => pend s
  | _ => s

/-- RELEASE with FORCE in a supplied state (R34). -/
def State.releaseForced (s : State) (b : Berth) : State :=
  (((s.openBreaker b).send b (.opened .forced)).standDown b).enterReleased b

/-- A RELEASE is taken in this state (Table 1-4). -/
def State.releasable (s : State) (b : Berth) : Bool :=
  match (s.bu b).st with
  | .vacant | .released _ | .faulted | .blocked => false
  | _ => true

/-- The reply to RELEASE: NO_SUCH, RANGE on the force field, STATE by Table 1-4, or OK. -/
def releaseReply (s : State) (body : List Byte) : Reply :=
  match berthOperand body, boolOfCode (byteAt body 1) with
  | none, _ => .refused (orderCode .release) .noSuch
  | some _, none => .refused (orderCode .release) .range
  | some b, some _ => if s.releasable b then .ok (orderCode .release) .none else .refused (orderCode .release) .state

/-- The body asks for FORCE. -/
def forceAsked (body : List Byte) : Bool := byteAt body 1 == 1

/-- The body does not ask for FORCE. -/
def forceNotAsked (body : List Byte) : Bool := !forceAsked body

/-- RELEASE without FORCE (R33). -/
def execRelease (s : State) : Host.Outcome State Fault Refusal :=
  orderEvent .release forceNotAsked releaseReply (atBerth State.releaseByState) s

/-- RELEASE with FORCE by state: at once on a supplied berth, else as without FORCE (R34). -/
def State.releaseForceByState (s : State) (b : Berth) : State :=
  if (s.bu b).st.supplied then s.releaseForced b else s.releaseByState b

/-- RELEASE with FORCE (R34). -/
def execReleaseForce (s : State) : Host.Outcome State Fault Refusal :=
  orderEvent .release forceAsked releaseReply (atBerth State.releaseForceByState) s

/-! ## BLOCK, UNBLOCK, CLEAR, REINIT -/

/-- BLOCK is taken in VACANT, RELEASED and FAULTED (R39). -/
def State.blockable (s : State) (b : Berth) : Bool :=
  match (s.bu b).st with
  | .vacant | .released _ | .faulted => true
  | _ => false

/-- BLOCK (R39): the stand-down, then BLOCKED; an earthing procedure goes on. A berth that becomes exposed by it, FAULTED until then with
its breaker closed, faults under a selected trip that stands (R169). -/
def State.block (s : State) (b : Berth) : State :=
  let t := (s.standDown b).setState b .blocked
  if s.exposed b then t else t.checkTrip b

/-- BLOCK is ordered of a berth (R39). -/
def execBlock (s : State) : Host.Outcome State Fault Refusal :=
  orderEvent .block anyBody (berthReply .block State.blockable) (atBerth State.block) s

/-- UNBLOCK (R40): VACANT, and on to PROBE where presence is detected. -/
def execUnblock (s : State) : Host.Outcome State Fault Refusal :=
  orderEvent .unblock anyBody (berthReply .unblock fun s b => (s.bu b).st == .blocked) (atBerth State.enterVacant) s

/-- CLEAR is taken in FAULTED on the conditions of R180 (R30). -/
def State.clearTaken (s : State) (b : Berth) : Bool := (s.bu b).st == .faulted && s.clearable b

/-- CLEAR (R30, R176): the berth leaves its holder list and enters RELEASED. -/
def execClear (s : State) : Host.Outcome State Fault Refusal :=
  orderEvent .clear anyBody (berthReply .clear State.clearTaken) (atBerth fun s b => (s.clearHolder b).releaseBerth b) s

/-- The REINIT column of Table 1-3; an earthing procedure goes on (R41). -/
def BerthUnit.reinit (u : BerthUnit) : BerthUnit :=
  { BerthUnit.cold with
    st := u.st, lastFault := u.lastFault, earthing := u.earthing, breakerCmd := u.breakerCmd, switchCmd := u.switchCmd,
    selectorCmd := u.selectorCmd,
    timers := { BerthTimers.none with discharge := u.timers.discharge, earthSwitch := u.timers.earthSwitch } }

/-- REINIT is taken in VACANT, RELEASED and BLOCKED, and in FAULTED on the conditions for CLEAR (R41). -/
def State.reinitTaken (s : State) (b : Berth) : Bool :=
  match (s.bu b).st with
  | .vacant | .released _ | .blocked => true
  | .faulted => s.clearable b
  | _ => false

/-- The effect of REINIT (R41, R176). -/
def State.reinit (s : State) (b : Berth) : State :=
  let s := (s.clearHolder b).mapBu b BerthUnit.reinit
  (s.mapTests fun t => { t with results := t.results.set b none }).enterVacant b

/-- REINIT (R41). -/
def execReinit (s : State) : Host.Outcome State Fault Refusal :=
  orderEvent .reinit anyBody (berthReply .reinit State.reinitTaken) (atBerth State.reinit) s

/-! ## PROOF and CENSUS -/

/-- The reply to PROOF (R129). -/
def proofReply (s : State) (body : List Byte) : Reply :=
  match moduleOperand body with
  | none => .refused (orderCode .proof) .noSuch
  | some m =>
    match (s.bank.modules.get m).st with
    | .absent => .refused (orderCode .proof) .noSuch
    | .proofPending | .retired | .proofing _ => .accepted (orderCode .proof)
    | _ => .refused (orderCode .proof) .state

/-- The effect of PROOF (R129): the module joins the proof list, a STOPPED bank is started, a test begins where it may. -/
def proofEffect (body : List Byte) (s : State) : State :=
  match moduleOperand body with
  | none => s
  | some m =>
    let s := s.mapBank fun k => k.joinProof m
    if s.bank.st = .stopped then s.enterBank .starting else s.beginProof

/-- PROOF (R129). -/
def execProof (s : State) : Host.Outcome State Fault Refusal := orderEvent .proof anyBody proofReply proofEffect s

/-- The reply to CENSUS after the prepare sequence (R131, R197). DESIGN CHOICE (log 71): with a write in hand and bank demand at once the
answer is STATE, which Table 9-2 lists first. -/
def censusReply (s : State) (_ : List Byte) : Reply :=
  if s.writeInHand then .refused (orderCode .census) .state
  else if s.bank.demand ≠ 0 then .refused (orderCode .census) .inUse
  else .accepted (orderCode .census)

/-- A module's record at CENSUS (R131 steps 1 to 3). -/
def censusRecord (set : Settings) (m : Module) (r : ModuleRec) : ModuleRec :=
  if moduleInstalled set m then .withdrawn .proofPending else r

/-- The effect of CENSUS (R131). -/
def State.census (s : State) : State :=
  let bank := s.bank
  let s := s.mapBank fun k =>
    { k with modules := .ofFn fun m => censusRecord s.set m (k.modules.get m), proofList := Module.all.filter (moduleInstalled s.set) }
  ((s.commitModules bank true).recover).beginProof

/-- CENSUS (R131). -/
def execCensus (s : State) : Host.Outcome State Fault Refusal :=
  orderEvent .census anyBody censusReply (fun _ s => s.census) s

/-! ## PREPARE, APPLY, RESTART -/

/-- PREPARE (R196): the flag is set as the order is taken. -/
def execPrepare (s : State) : Host.Outcome State Fault Refusal :=
  orderEvent .prepare anyBody (fun _ _ => .ok (orderCode .prepare) .none) (fun _ s => s) s

/-- Some berth holds a nonzero grant. -/
def State.anyGrant (s : State) : Bool := Berth.all.any fun b => (s.bu b).grant != 0

/-- The reply to APPLY after the prepare sequence (R197, R203). -/
def applyReply (s : State) (body : List Byte) : Reply :=
  match parseSettings body with
  | none => .refused (orderCode .apply) .range
  | some asked =>
    if s.writeInHand then .refused (orderCode .apply) .state
    else if budgetDiffers (clampSettings asked) s.set && s.anyGrant then .refused (orderCode .apply) .inUse
    else
      match clampedValues asked (clampSettings asked) with
      | [] => .accepted (orderCode .apply)
      | values => .clamped (orderCode .apply) (.settings values)

/-- The effect of APPLY: the clamped record is handed to the write (R203). -/
def applyEffect (body : List Byte) (s : State) : State :=
  match parseSettings body with
  | none => s
  | some asked => s.handOver (.settings (clampSettings asked) (budgetDiffers (clampSettings asked) s.set))

/-- APPLY (R203). -/
def execApply (s : State) : Host.Outcome State Fault Refusal := orderEvent .apply anyBody applyReply applyEffect s

/-- The reply to RESTART (R182, R197). -/
def restartReply (s : State) (_ : List Byte) : Reply :=
  if s.writeInHand then .refused (orderCode .restart) .state else .accepted (orderCode .restart)

/-- RESTART (R182). -/
def execRestart (s : State) : Host.Outcome State Fault Refusal :=
  orderEvent .restart anyBody restartReply (fun _ s => s.warmRestart) s

end Sys2Proof.Machine
end

