-- ==== Sys2Proof/Machine/Quay.lean ====
section
/-! DEFINITION. The Quay Link Channels: the framer, link status (R47, R48), HELLO in every state (R53 to R57, R32, R188), the other
ship messages (R58 to R60), link loss (R36), and the channel's timers (R51, R52). -/

namespace Sys2Proof.Machine

/-! ## Link status and delivery -/

/-- A LINK_HOLD berth regains its link (R26): SUPPLIED, GRANT, the report to the Feeder Budget Unit with the step down and the scan
it brings (R91, R104), then a pending release (log 36). -/
def State.leaveHold (s : State) (b : Berth) : State :=
  let s := (s.setState b (.onShore .supplied)).sendGrant b
  let s := (s.stepDown).startScan
  if (s.bu b).releasePending then s.orderTakeback b else s

/-- A valid frame restarts the loss timer, and raises a DOWN or LOST link to UP with its event at the Berth Unit (R47, R48). DESIGN
CHOICE (log 48): the frame takes a LINK_HOLD berth to SUPPLIED also where the link has stood UP since it entered from ADOPTED (R26, R56,
R59, R190). -/
def State.heard (s : State) (b : Berth) : State :=
  let s := s.mapCh b fun c => { c with link := .up, loss := s.after Config.lossMs }
  if (s.bu b).st = .onShore .linkHold then s.leaveHold b else s

/-- The framer gives up the frame it delivers (R44). -/
def State.takeFrame (s : State) (b : Berth) : State := s.mapCh b fun c => { c with held := takeQuay c.held }

/-- A valid frame: discarded in VACANT (R49), else the link status first and the message after (R48). -/
def State.receive (s : State) (b : Berth) (f : State → State) : State :=
  let s := s.takeFrame b
  if (s.bu b).st = .vacant then s else f (s.heard b)

/-! ## HELLO -/

/-- The modes a berth allows (R53, R57). -/
def State.modesAllowed (s : State) (b : Berth) : Modes := if (s.bset b).openAllowed then .both else .closed

/-- The modes include CLOSED. -/
def Modes.closedOffered : Modes → Bool
  | .opened => false
  | _ => true

/-- The modes include OPEN. -/
def Modes.openOffered : Modes → Bool
  | .closed => false
  | _ => true

/-- The HELLO check: the first test that fails names the refusal (R53). -/
def State.helloRefusal (s : State) (b : Berth) (h : Hello) : Option RefuseReason :=
  if h.vclass ≠ (s.bset b).vclass then some .classMismatch
  else if h.sclass = .f60 ∧ ((s.bset b).f60Allowed = false ∨ s.set.converterInstalled = false) then some .supplyUnavailable
  else if !Modes.closedOffered h.modes && !(s.bset b).openAllowed then some .transferMode
  else none

/-- The fault cause of the same name as a refusal of the check (R53). -/
def refusalCause : RefuseReason → FaultCause
  | .classMismatch => .classMismatch
  | .supplyUnavailable => .supplyUnavailable
  | _ => .transferMode

/-- min′ as recorded while a grant is held: not above it (R32, R87). -/
def boundedMin (grant minEff : Nat) : Nat := if grant = 0 then minEff else min minEff grant

/-- Modes, clamped bids, gens online and the effective bids of a HELLO are recorded (R32, R54, R87). -/
def State.recordBids (s : State) (b : Berth) (h : Hello) : State :=
  let bids := clampBids h.bidMin.toNat h.bidFull.toNat
  let full := fullOf bids.2 (s.bset b).outletRating
  s.mapBu b fun u =>
    { u with modes := some h.modes, bidMin := some bids.1, bidFull := some bids.2, gens := some h.gens,
             fullEff := some full, minEff := some (boundedMin u.grant (minOf bids.1 full)) }

/-- A first accepted HELLO records identity and classes too (R11). -/
def State.recordHello (s : State) (b : Berth) (h : Hello) : State :=
  (s.mapBu b fun u => { u with identity := some h.identity, vclass := some h.vclass, sclass := some h.sclass }).recordBids b h

/-- WELCOME (R57). -/
def State.welcome (s : State) (b : Berth) (resume : Bool) : State :=
  s.send b (.welcome b.number ((s.bu b).minEff.getD 0) ((s.bu b).fullEff.getD 0) (s.modesAllowed b) resume)

/-- REFUSE (R64). -/
def State.refuse (s : State) (b : Berth) (r : RefuseReason) (k : ShipKind) : State := s.send b (.refuse r k)

/-- A refused HELLO: REFUSE, then the fault of the same name (R53). -/
def State.refuseHello (s : State) (b : Berth) (r : RefuseReason) : State :=
  (s.refuse b r .hello).fault b (refusalCause r)

/-- A HELLO that would start a connection (R11, R28, R53). -/
def State.connect (s : State) (b : Berth) (h : Hello) : State :=
  match s.helloRefusal b h with
  | some r => s.refuseHello b r
  | none => ((s.recordHello b h).welcome b false).enterTest b

/-- A re-bid's classes differ from the record (R32); an absent class differs from none (log 23). -/
def BerthUnit.classChanged (u : BerthUnit) (h : Hello) : Bool :=
  (u.vclass.any (· != h.vclass)) || (u.sclass.any (· != h.sclass))

/-- A re-bid at the Feeder Budget Unit once the bids are recorded (R98): grant reduced to full′, entry adjusted, the scan it calls
for, and the step down that a lower min′ brings (R104). DESIGN CHOICE (log 73): the step down comes last, after the berth's own
reduction and entry. -/
def State.settleBid (s : State) (b : Berth) : State :=
  let full := (s.bu b).fullEff.getD 0
  let reduced := decide (full < (s.bu b).grant)
  let s := if reduced then s.reduceGrant b full else s
  let raised := (s.entry b).any fun e => e.kind == .admission && decide (e.sought < full)
  let s := s.updateEntry b fun e =>
    if e.kind = .admission then { e with sought := full, minimum := (s.bu b).minEff.getD 0 } else e
  let s := s.settleTopup b
  (if reduced || raised then s.startScan else s).stepDown

/-- A re-bid (R32). -/
def State.rebid (s : State) (b : Berth) (h : Hello) : State :=
  if (s.bu b).classChanged h then s.refuse b .classChange .hello
  else
    let s := s.recordBids b h
    (if (s.bu b).adoptedMark then s else s.settleBid b).welcome b false

/-- The check of a resume HELLO: a fourth test on the selector's class follows the three of R53 (R188). DESIGN CHOICE (log 58): feedback
of no position, or of both, gives F50 here as R185 has it for the Feeder Budget Unit. -/
def State.resumeRefusal (s : State) (b : Berth) (h : Hello) : Option RefuseReason :=
  match s.helloRefusal b h with
  | some r => some r
  | none => if h.sclass ≠ s.selectorClass b then some .classMismatch else none

/-- The grant of an accepted resume answer is settled (R188): min′ bounded by it, the adopted mark cleared, full′ not exceeded. -/
def State.settleAdopted (s : State) (b : Berth) (h : Hello) : State :=
  let s := (s.recordHello b h).mapBu b fun u =>
    { u with adoptedMark := false, answered := true, minEff := u.minEff.map fun m => min m u.grant }
  let s := s.stepDown
  let full := (s.bu b).fullEff.getD 0
  if full < (s.bu b).grant then s.reduceGrant b full else s

/-- Where an accepted resume answer leads, by the state it found and gens online (R188, R190), from the grant held before it. An
answered berth with generators online stays in ADOPTED until the round closes. -/
def State.goOnResumed (s : State) (b : Berth) (gens held : Nat) : State :=
  match (s.bu b).st with
  | .adopted =>
    if gens = 0 then (s.enterOnShore b false).joinTopup b
    else (s.mapTimers b fun t => { t with contact := none }).mapCh b fun c => { c with callRepeat := none }
  | _ =>
    let s := s.mapBu b fun u => { u with answered := false }
    if gens = 0 then s.joinTopup b
    else (s.enterReturn b held).requestPermit b .returning true

/-- A resume answer (R56, R188, R190). -/
def State.resumeAnswer (s : State) (b : Berth) (h : Hello) : State :=
  match s.resumeRefusal b h with
  | some r => s.refuseHello b r
  | none => ((s.settleAdopted b h).welcome b true).goOnResumed b h.gens (s.bu b).grant

/-- A valid HELLO by state (R55, R56). -/
def State.takeHello (s : State) (b : Berth) (h : Hello) : State :=
  match (s.bu b).st with
  | .vacant => s
  | .probe .quiet => s
  | .probe .calling => s.connect b h
  | .test _ => s.rebid b h
  | .queued => s.rebid b h
  | .ready _ => s.rebid b h
  | .onShore _ => if (s.bu b).adoptedMark && h.resume then s.resumeAnswer b h else s.rebid b h
  | .sync _ => s.refuse b .state .hello
  | .parallel => s.refuse b .state .hello
  | .returning _ => s.refuse b .state .hello
  | .released .earthing => s
  | .released .earthed => s.connect b h
  | .faulted => s.refuse b .state .hello
  | .blocked => s.refuse b .blocked .hello
  | .adopted =>
    if (s.bu b).answered then s.rebid b h
    else if h.resume then s.resumeAnswer b h
    else s.refuse b .resumeExpected .hello

/-- HELLO (R55). One outside the ranges of R45 is a discarded frame (log 9). -/
def execHello (b : Berth) (h : Hello) (s : State) : Host.Outcome State Fault Refusal :=
  .next (s.eventClosing fun s => if h.wellFormed then s.receive b fun s => s.takeHello b h else s)

/-! ## BEACON and the other messages -/

/-- UNLOADED is acted on: the permit is given back and the berth enters ON_SHORE (R24). -/
def State.unload (s : State) (b : Berth) : State := (s.releasePermit b).enterOnShore b false

/-- A valid BEACON: beacon record, gens online, and a held UNLOADED at gens online 0 (R50). -/
def State.takeBeacon (s : State) (b : Berth) (r : Beacon) : State :=
  let s := s.mapCh b fun c => { c with beacon := some r }
  let s := s.mapBu b fun u => { u with gens := some r.gens }
  if (s.bu b).st = .parallel ∧ (s.bu b).heldUnloaded ∧ r.gens = 0 then s.unload b else s

/-- BEACON (R50). One outside the ranges of R45 is a discarded frame (log 9). -/
def execBeacon (b : Berth) (r : Beacon) (s : State) : Host.Outcome State Fault Refusal :=
  .next (s.eventClosing fun s => if r.wellFormed then s.receive b fun s => s.takeBeacon b r else s)

/-- CABLE_LIVE in AWAIT_SHIP (R17, R58): CABLE_CHECK under the cable limit, or REFUSE. -/
def State.takeCableLive (s : State) (b : Berth) : State :=
  if (s.bu b).st ≠ .ready .awaitShip then s
  else if (s.bu b).modes.any Modes.closedOffered then
    let s := (s.mapBu b fun u => { u with transferMode := some .closed }).setState b (.ready .cableCheck)
    (s.mapTimers b fun t => { t with cable := s.after Config.cableMs }).checkCable b
  else s.refuse b .transferMode .cableLive

/-- CABLE_LIVE (R17). -/
def execCableLive (b : Berth) (s : State) : Host.Outcome State Fault Refusal :=
  .next (s.eventClosing fun s => s.receive b fun s => s.takeCableLive b)

/-- DARK in AWAIT_SHIP (R17, R19): OPEN_CLOSE under the cable limit, or REFUSE. -/
def State.takeDark (s : State) (b : Berth) : State :=
  if (s.bu b).st ≠ .ready .awaitShip then s
  else if (s.bu b).modes.any Modes.openOffered && (s.bset b).openAllowed then
    let s := (s.mapBu b fun u => { u with transferMode := some .opened }).setState b (.ready .openClose)
    (s.mapTimers b fun t => { t with cable := s.after Config.cableMs }).checkOpenClose b
  else s.refuse b .transferMode .dark

/-- DARK (R17). -/
def execDark (b : Berth) (s : State) : Host.Outcome State Fault Refusal :=
  .next (s.eventClosing fun s => s.receive b fun s => s.takeDark b)

/-- UNLOADED in PARALLEL: acted on at gens online 0, else held (R24). -/
def State.takeUnloaded (s : State) (b : Berth) : State :=
  if (s.bu b).st ≠ .parallel then s
  else if (s.bu b).gens = some 0 then s.unload b
  else s.mapBu b fun u => { u with heldUnloaded := true }

/-- UNLOADED (R24). -/
def execUnloaded (b : Berth) (s : State) : Host.Outcome State Fault Refusal :=
  .next (s.eventClosing fun s => s.receive b fun s => s.takeUnloaded b)

/-- TAKEBACK in SUPPLIED: RETURN, and the permit asked for in the return class (R25). -/
def State.takeTakeback (s : State) (b : Berth) : State :=
  if (s.bu b).st = .onShore .supplied then (s.enterReturn b (s.bu b).grant).requestPermit b .returning false else s

/-- TAKEBACK (R25). -/
def execTakeback (b : Berth) (s : State) : Host.Outcome State Fault Refusal :=
  .next (s.eventClosing fun s => s.receive b fun s => s.takeTakeback b)

/-- GENS_ON in GENS_WAIT: RETURN_PARALLEL (R159). -/
def State.takeGensOn (s : State) (b : Berth) : State :=
  if (s.bu b).st = .returning .gensWait then s.enterReturnParallel b else s

/-- GENS_ON (R159). -/
def execGensOn (b : Berth) (s : State) : Host.Outcome State Fault Refusal :=
  .next (s.eventClosing fun s => s.receive b fun s => s.takeGensOn b)

/-- BYE by state (R35). -/
def State.takeBye (s : State) (b : Berth) : State :=
  match (s.bu b).st with
  | .probe _ => s.releaseBerth b
  | .test _ => s.releaseBerth b
  | .queued => s.releaseBerth b
  | .ready _ => s.releaseBerth b
  | .sync _ => (s.abandonSync b).releaseBerth b
  | _ => s

/-- BYE (R35). -/
def execBye (b : Berth) (s : State) : Host.Outcome State Fault Refusal :=
  .next (s.eventClosing fun s => s.receive b fun s => s.takeBye b)

/-! ## Link loss -/

/-- A berth goes back to PROBE on link loss (R36): stand-down, earthing procedure, QUIET. -/
def State.backToProbe (s : State) (b : Berth) : State :=
  (((s.withdrawClose b).standDown b).startEarthing b).beginQuiet b

/-- Link status LOST by state (Table 1-5). -/
def State.actOnLost (s : State) (b : Berth) : State :=
  match (s.bu b).st with
  | .test _ => s.backToProbe b
  | .queued => s.backToProbe b
  | .ready _ => s.backToProbe b
  | .sync _ => ((s.withdrawClose b).releasePermit b).backToProbe b
  | .parallel => s.fault b .linkLostTransfer
  | .onShore .supplied => s.setState b (.onShore .linkHold)
  | _ => s

/-- Expiry of the loss timer: LOST (R47). -/
def execLossTimerExpiry (b : Berth) (s : State) : Host.Outcome State Fault Refusal :=
  .next (s.eventClosing fun s =>
    s.expire (s.ch b).loss fun s => (s.mapCh b fun c => { c with link := .lost, loss := none }).actOnLost b)

/-! ## Line and timers -/

/-- A received frame is discarded; the framer hunts through the bytes it held from the frame's start byte on, and itself passes over
what R44 has it pass over (R44, R45; log 7). -/
def execQuayFrameDiscarded (b : Berth) (held : List Byte) (s : State) : Host.Outcome State Fault Refusal :=
  .next (s.event fun s => s.mapCh b fun c => { c with held := huntQuay held })

/-- A gap discards a partly received frame (R44). -/
def execQuayFrameGap (b : Berth) (s : State) : Host.Outcome State Fault Refusal :=
  .next (s.event fun s => s.mapCh b fun c => { c with held := [] })

/-- The frame on the line has been sent in full; the next one starts (R42, R46). -/
def execQuayFrameSent (b : Berth) (s : State) : Host.Outcome State Fault Refusal :=
  .next (s.event fun s => s.mapCh b fun c => { c with sending := none }.kick)

/-- Expiry of the shore beacon timer: SHORE_STATE, and the timer again (R51). -/
def execShoreBeaconTimerExpiry (b : Berth) (s : State) : Host.Outcome State Fault Refusal :=
  .next (s.event fun s =>
    s.expire (s.ch b).shoreBeacon fun s =>
      (s.send b (.shoreState (s.bu b).st (s.bu b).grant)).mapCh b fun c => { c with shoreBeacon := s.after Config.beaconMs })

/-- Expiry of the call repeat timer: CALL again, with the resume flag in ADOPTED (R52). -/
def execCallRepeatTimerExpiry (b : Berth) (s : State) : Host.Outcome State Fault Refusal :=
  .next (s.event fun s =>
    s.expire (s.ch b).callRepeat fun s => s.sendCall b ((s.bu b).st == .adopted))

end Sys2Proof.Machine
end

