-- ==== Sys2Proof/Machine/Dispatch.lean ====
section
/-! DEFINITION. The meaning of each command: one arm for each constructor of `Instr`. -/

namespace Sys2Proof.Machine

/-- What a command does to everything but the queue of waiting commands. -/
def exec (i : Instr) (s : State) : Host.Outcome State Fault Refusal :=
  match i with
  | .coldStart settingsPass historyPass targetPass => Sys2Proof.Machine.execColdStart settingsPass historyPass targetPass s
  | .auxiliarySupplyLoss => Sys2Proof.Machine.execAuxiliarySupplyLoss s
  | .startWindowClose => Sys2Proof.Machine.execStartWindowClose s
  | .hostFrameReceived tag kind body => Sys2Proof.Machine.execHostFrameReceived tag kind body s
  | .hostFrameDiscarded held => Sys2Proof.Machine.execHostFrameDiscarded held s
  | .hostFrameGap => Sys2Proof.Machine.execHostFrameGap s
  | .hostFrameSent => Sys2Proof.Machine.execHostFrameSent s
  | .queryUnit => Sys2Proof.Machine.execQueryUnit s
  | .queryBerth => Sys2Proof.Machine.execQueryBerth s
  | .queryQueue => Sys2Proof.Machine.execQueryQueue s
  | .queryPermit => Sys2Proof.Machine.execQueryPermit s
  | .queryTests => Sys2Proof.Machine.execQueryTests s
  | .queryModules => Sys2Proof.Machine.execQueryModules s
  | .readSettings => Sys2Proof.Machine.execReadSettings s
  | .curtail => Sys2Proof.Machine.execCurtail s
  | .release => Sys2Proof.Machine.execRelease s
  | .releaseForce => Sys2Proof.Machine.execReleaseForce s
  | .block => Sys2Proof.Machine.execBlock s
  | .unblock => Sys2Proof.Machine.execUnblock s
  | .clear => Sys2Proof.Machine.execClear s
  | .reinit => Sys2Proof.Machine.execReinit s
  | .proof => Sys2Proof.Machine.execProof s
  | .prepare => Sys2Proof.Machine.execPrepare s
  | .apply => Sys2Proof.Machine.execApply s
  | .census => Sys2Proof.Machine.execCensus s
  | .restart => Sys2Proof.Machine.execRestart s
  | .storeWriteComplete testPassed => Sys2Proof.Machine.execStoreWriteComplete testPassed s
  | .writeLimitExpiry => Sys2Proof.Machine.execWriteLimitExpiry s
  | .quayFrameDiscarded b held => Sys2Proof.Machine.execQuayFrameDiscarded b held s
  | .quayFrameGap b => Sys2Proof.Machine.execQuayFrameGap b s
  | .quayFrameSent b => Sys2Proof.Machine.execQuayFrameSent b s
  | .lossTimerExpiry b => Sys2Proof.Machine.execLossTimerExpiry b s
  | .shoreBeaconTimerExpiry b => Sys2Proof.Machine.execShoreBeaconTimerExpiry b s
  | .callRepeatTimerExpiry b => Sys2Proof.Machine.execCallRepeatTimerExpiry b s
  | .hello b h => Sys2Proof.Machine.execHello b h s
  | .beacon b r => Sys2Proof.Machine.execBeacon b r s
  | .cableLive b => Sys2Proof.Machine.execCableLive b s
  | .dark b => Sys2Proof.Machine.execDark b s
  | .unloaded b => Sys2Proof.Machine.execUnloaded b s
  | .takeback b => Sys2Proof.Machine.execTakeback b s
  | .gensOn b => Sys2Proof.Machine.execGensOn b s
  | .bye b => Sys2Proof.Machine.execBye b s
  | .plugProximityChange b asserted => Sys2Proof.Machine.execPlugProximityChange b asserted s
  | .pilotLoopOpen b => Sys2Proof.Machine.execPilotLoopOpen b s
  | .pilotLoopContinuous b => Sys2Proof.Machine.execPilotLoopContinuous b s
  | .quietTimerExpiry b => Sys2Proof.Machine.execQuietTimerExpiry b s
  | .contactLimitExpiry b => Sys2Proof.Machine.execContactLimitExpiry b s
  | .retestDelayExpiry b => Sys2Proof.Machine.execRetestDelayExpiry b s
  | .selectorFeedback b at50 at60 => Sys2Proof.Machine.execSelectorFeedback b at50 at60 s
  | .selectorLimitExpiry b => Sys2Proof.Machine.execSelectorLimitExpiry b s
  | .earthSwitchFeedback b closed opened => Sys2Proof.Machine.execEarthSwitchFeedback b closed opened s
  | .earthingSwitchLimitExpiry b => Sys2Proof.Machine.execEarthingSwitchLimitExpiry b s
  | .dischargeIntervalExpiry b => Sys2Proof.Machine.execDischargeIntervalExpiry b s
  | .cableLimitExpiry b => Sys2Proof.Machine.execCableLimitExpiry b s
  | .readyLimitExpiry b => Sys2Proof.Machine.execReadyLimitExpiry b s
  | .meterReport b r => Sys2Proof.Machine.execMeterReport b r s
  | .freshnessTimerExpiry b => Sys2Proof.Machine.execFreshnessTimerExpiry b s
  | .syncTimerExpiry => Sys2Proof.Machine.execSyncTimerExpiry s
  | .parallelTimerExpiry => Sys2Proof.Machine.execParallelTimerExpiry s
  | .reversePowerTimerExpiry => Sys2Proof.Machine.execReversePowerTimerExpiry s
  | .gensOnLimitExpiry => Sys2Proof.Machine.execGensOnLimitExpiry s
  | .returnParallelTimerExpiry => Sys2Proof.Machine.execReturnParallelTimerExpiry s
  | .answerLimitExpiry b => Sys2Proof.Machine.execAnswerLimitExpiry b s
  | .takeBackLimitExpiry b => Sys2Proof.Machine.execTakeBackLimitExpiry b s
  | .breakerFeedback b closed opened => Sys2Proof.Machine.execBreakerFeedback b closed opened s
  | .closeSupervisionExpiry b => Sys2Proof.Machine.execCloseSupervisionExpiry b s
  | .openSupervisionExpiry b => Sys2Proof.Machine.execOpenSupervisionExpiry b s
  | .ownTripInputChange b asserted => Sys2Proof.Machine.execOwnTripInputChange b asserted s
  | .groupTripBusChange g asserted => Sys2Proof.Machine.execGroupTripBusChange g asserted s
  | .estopActive => Sys2Proof.Machine.execEstopActive s
  | .estopInactive => Sys2Proof.Machine.execEstopInactive s
  | .earthSwitchDisagreementExpiry b => Sys2Proof.Machine.execEarthSwitchDisagreementExpiry b s
  | .selectorDisagreementExpiry b => Sys2Proof.Machine.execSelectorDisagreementExpiry b s
  | .overdrawTimerExpiry b => Sys2Proof.Machine.execOverdrawTimerExpiry b s
  | .earthIntervalExpiry u milliohm => Sys2Proof.Machine.execEarthIntervalExpiry u milliohm s
  | .testSwitchLimitExpiry u => Sys2Proof.Machine.execTestSwitchLimitExpiry u s
  | .measurementIntervalExpiry u megohm disturbed => Sys2Proof.Machine.execMeasurementIntervalExpiry u megohm disturbed s
  | .testDischargeIntervalExpiry u cableV => Sys2Proof.Machine.execTestDischargeIntervalExpiry u cableV s
  | .admissionScan => Sys2Proof.Machine.execAdmissionScan s
  | .tripped m => Sys2Proof.Machine.execTripped m s
  | .restartOk m => Sys2Proof.Machine.execRestartOk m s
  | .restartFail m => Sys2Proof.Machine.execRestartFail m s
  | .proofPass m => Sys2Proof.Machine.execProofPass m s
  | .proofFail m => Sys2Proof.Machine.execProofFail m s
  | .restartLimitExpiry m => Sys2Proof.Machine.execRestartLimitExpiry m s
  | .proofLimitExpiry m => Sys2Proof.Machine.execProofLimitExpiry m s
  | .settleTimerExpiry => Sys2Proof.Machine.execSettleTimerExpiry s
  | .idleStopTimerExpiry => Sys2Proof.Machine.execIdleStopTimerExpiry s

end Sys2Proof.Machine
end

