-- ==== Sys2Proof/Machine/Idle.lean ====
section
/-! DEFINITION. What the unit does of its own accord while no command waits (log 42): the next admission scan that has been started, the
close of the start window, the next order of the buffer, the timer due first, or else one millisecond passes. -/

namespace Sys2Proof.Machine

/-! ## Timers -/

/-- A timer with the command of its expiry. -/
def timed (t : Timer) (i : Instr) : List (Nat × Instr) :=
  match t with
  | none => []
  | some due => [(due, i)]

/-- One berth's timers that run. The discharge, earth and measurement intervals of a test unit are not among the unit's timers here:
their expiry brings a reading. -/
def State.berthTimers (s : State) (b : Berth) : List (Nat × Instr) :=
  let t := (s.bu b).timers
  let c := s.ch b
  let p := s.pb b
  timed t.quiet (.quietTimerExpiry b) ++ timed t.contact (.contactLimitExpiry b) ++ timed t.retest (.retestDelayExpiry b)
    ++ timed t.selector (.selectorLimitExpiry b) ++ timed t.earthSwitch (.earthingSwitchLimitExpiry b)
    ++ timed t.discharge (.dischargeIntervalExpiry b) ++ timed t.cable (.cableLimitExpiry b)
    ++ timed t.ready (.readyLimitExpiry b) ++ timed t.answer (.answerLimitExpiry b)
    ++ timed t.takeBack (.takeBackLimitExpiry b) ++ timed t.freshness (.freshnessTimerExpiry b)
    ++ timed c.loss (.lossTimerExpiry b) ++ timed c.shoreBeacon (.shoreBeaconTimerExpiry b)
    ++ timed c.callRepeat (.callRepeatTimerExpiry b) ++ timed p.closeSup (.closeSupervisionExpiry b)
    ++ timed p.openSup (.openSupervisionExpiry b) ++ timed p.switchDisagree (.earthSwitchDisagreementExpiry b)
    ++ timed p.selectorDisagree (.selectorDisagreementExpiry b)
    ++ timed (p.overdraw.map OverdrawWatch.due) (.overdrawTimerExpiry b)

/-- One module's limits that run. -/
def State.moduleTimers (s : State) (m : Module) : List (Nat × Instr) :=
  let r := s.bank.modules.get m
  timed r.restartLimit (.restartLimitExpiry m) ++ timed r.proofLimit (.proofLimitExpiry m)

/-- The timers of the shared blocks that run. -/
def State.sharedTimers (s : State) : List (Nat × Instr) :=
  let t := s.transfer
  timed t.sync .syncTimerExpiry ++ timed t.parallel .parallelTimerExpiry ++ timed t.reverse .reversePowerTimerExpiry
    ++ timed t.gensOn .gensOnLimitExpiry ++ timed t.returnParallel .returnParallelTimerExpiry
    ++ timed s.tests.unitA.switchLimit (.testSwitchLimitExpiry .a) ++ timed s.tests.unitB.switchLimit (.testSwitchLimitExpiry .b)
    ++ timed s.store.writeLimit .writeLimitExpiry ++ timed s.bank.settle .settleTimerExpiry
    ++ timed s.bank.idleStop .idleStopTimerExpiry

/-- Every timer that runs, with the command of its expiry. -/
def State.timers (s : State) : List (Nat × Instr) :=
  Berth.all.flatMap s.berthTimers ++ s.sharedTimers ++ Module.all.flatMap s.moduleTimers

/-- The earlier of two timers, the first where they are due together. -/
def earlier (x : Nat × Instr) : Option (Nat × Instr) → Option (Nat × Instr)
  | none => some x
  | some y => if y.1 < x.1 then some y else some x

/-- The timer due first. -/
def firstDue : List (Nat × Instr) → Option (Nat × Instr)
  | [] => none
  | x :: xs => earlier x (firstDue xs)

/-! ## What comes next of itself -/

/-- The row of the oldest order not yet taken (R195). -/
def orderRow (o : Slot) : Instr :=
  match o.kind with
  | .queryUnit => .queryUnit
  | .queryBerth => .queryBerth
  | .queryQueue => .queryQueue
  | .queryPermit => .queryPermit
  | .queryTests => .queryTests
  | .queryModules => .queryModules
  | .readSettings => .readSettings
  | .curtail => .curtail
  | .release => if forceAsked o.body then .releaseForce else .release
  | .block => .block
  | .unblock => .unblock
  | .clear => .clear
  | .reinit => .reinit
  | .proof => .proof
  | .prepare => .prepare
  | .apply => .apply
  | .census => .census
  | .restart => .restart

/-- A scan has been started and is not held (R92, R203). -/
def State.scanDue (s : State) : Bool := !s.budget.scans.isEmpty && !s.scansHeld

/-- The start window is open and closes now (R185). -/
def State.windowDue (s : State) : Bool :=
  match s.start with
  | some c => s.adoptedMeasured || decide (c.window ≤ s.now)
  | none => false

/-- The event that comes next of itself at this moment, none where time must pass first. -/
def State.ownEvent (s : State) : Option Instr :=
  if s.scanDue then some .admissionScan
  else if s.windowDue then some .startWindowClose
  else
    match s.start, s.oldestOrder, firstDue s.timers with
    | none, some o, _ => some (orderRow o)
    | _, _, some (due, i) => if due ≤ s.now then some i else none
    | _, _, none => none

/-- The idle step: the next event of the unit's own, or one millisecond. Without supply nothing happens. -/
def idle (s : State) : Host.Outcome State Fault Refusal :=
  if s.powered then
    match s.ownEvent with
    | some i => exec i s
    | none => .next { s with now := s.now + 1 }
  else .next s

end Sys2Proof.Machine
end

