-- ==== Sys2Proof/Safety.lean ====
section
/-! DEFINITION. The terms the statements use: that a command completes with a next state of which something holds, that a reply or a
message was given, what stays as it was, and the conditions that hold of the unit's queues and lists in every run. -/

namespace Sys2Proof

/-! ## Commands by what they may change -/

/-- The wires after a command: a row that carries a wired input sets its own wires (Table 0-5), every other row none. -/
def Instr.linesAfter (c : Instr) (l : Machine.Lines) : Machine.Lines :=
  let wire (b : Berth) (f : Machine.BerthLines → Machine.BerthLines) : Machine.Lines :=
    { l with berth := l.berth.set b (f (l.berth.get b)) }
  match c with
  | .plugProximityChange b x => wire b fun w => { w with proximity := x }
  | .pilotLoopOpen b => wire b fun w => { w with pilotContinuous := false }
  | .pilotLoopContinuous b => wire b fun w => { w with pilotContinuous := true }
  | .selectorFeedback b x y => wire b fun w => { w with selector50 := x, selector60 := y }
  | .earthSwitchFeedback b x y => wire b fun w => { w with switchClosed := x, switchOpen := y }
  | .breakerFeedback b x y => wire b fun w => { w with breakerClosed := x, breakerOpen := y }
  | .ownTripInputChange b x => wire b fun w => { w with ownTrip := x }
  | .groupTripBusChange .a x => { l with busA := x }
  | .groupTripBusChange .b x => { l with busB := x }
  | .estopActive => { l with estop := true }
  | .estopInactive => { l with estop := false }
  | _ => l

/-- The berth a command names, none for a row that names no berth. -/
def Instr.berth? : Instr → Option Berth
  | .quayFrameDiscarded b _ | .quayFrameGap b | .quayFrameSent b | .lossTimerExpiry b | .shoreBeaconTimerExpiry b
  | .callRepeatTimerExpiry b | .hello b _ | .beacon b _ | .cableLive b | .dark b | .unloaded b | .takeback b | .gensOn b
  | .bye b | .plugProximityChange b _ | .pilotLoopOpen b | .pilotLoopContinuous b | .quietTimerExpiry b
  | .contactLimitExpiry b | .retestDelayExpiry b | .selectorFeedback b _ _ | .selectorLimitExpiry b
  | .earthSwitchFeedback b _ _ | .earthingSwitchLimitExpiry b | .dischargeIntervalExpiry b | .cableLimitExpiry b
  | .readyLimitExpiry b | .meterReport b _ | .freshnessTimerExpiry b | .answerLimitExpiry b | .takeBackLimitExpiry b
  | .breakerFeedback b _ _ | .closeSupervisionExpiry b | .openSupervisionExpiry b | .ownTripInputChange b _
  | .earthSwitchDisagreementExpiry b | .selectorDisagreementExpiry b | .overdrawTimerExpiry b => some b
  | _ => none

/-- The application and the loss of the auxiliary supply. -/
def Instr.isSupply : Instr → Bool
  | .coldStart .. | .auxiliarySupplyLoss => true
  | _ => false

/-- The rows that may change a backup holder list (R175, R176). -/
def Instr.touchesHolders : Instr → Bool
  | .openSupervisionExpiry .. | .breakerFeedback .. | .clear | .reinit => true
  | c => c.isSupply

end Sys2Proof

namespace Sys2Proof.Machine

/-! ## Completion -/

/-- A command answers a next state of which P holds. -/
def Goes (o : Host.Outcome State Fault Refusal) (P : State → Prop) : Prop := ∃ t, o = .next t ∧ P t

/-- An order is the next to be taken by a port that takes orders (R195); a row of its kind takes it (log 8). -/
def Takes (s : State) (o : Slot) : Prop := s.powered = true ∧ s.start = none ∧ s.oldestOrder = some o

/-- A reply waits for the transmitter or is being sent (R199). -/
def Replied (t : State) (tag : Byte) (immediate : Bool) (r : Reply) : Prop :=
  ({ tag := tag, immediate := immediate, reply := r } : ReplyFrame) ∈ t.port.replies
    ∨ t.port.sending = some (.reply { tag := tag, immediate := immediate, reply := r })

/-- A message waits in the berth's transmit queue or is being sent (R46). -/
def Given (t : State) (b : Berth) (m : QuayMsg) : Prop := m ∈ (t.ch b).queue ∨ (t.ch b).sending = some m

/-- The berth is not in LINK_HOLD, so a frame of its ship restores nothing (R26, R48; log 48). -/
def LinkStands (s : State) (b : Berth) : Prop := (s.bu b).st ≠ .onShore .linkHold

/-- A LINK_HOLD berth is back in SUPPLIED with its link UP, and GRANT has been given as its record stood (R26). -/
def Regained (s t : State) (b : Berth) : Prop :=
  (t.bu b).st = .onShore .supplied ∧ (t.ch b).link = .up
    ∧ Given t b (.grant (s.bu b).grant (s.bu b).minEff (s.bu b).fullEff (s.topup b))

/-! ## Frames -/

/-- Nothing but the Supervisory Link Port has changed. -/
def OnlyPort (s t : State) : Prop := t = { s with port := t.port }

/-- Nothing but one quay channel has changed. -/
def OnlyChannel (b : Berth) (s t : State) : Prop := t = { s with channels := s.channels.set b (t.ch b) }

/-- Nothing but the wires has changed. -/
def OnlyWires (s t : State) : Prop := t = { s with lines := t.lines }

/-- One berth holds nothing: no grant, no entry (R6). -/
def HoldsNothing (t : State) (b : Berth) : Prop :=
  (t.bu b).grant = 0 ∧ (t.bu b).draw = 0 ∧ (t.bu b).seq = none ∧ t.queueEntry b = none

/-- A berth has come to FAULTED by a cause, and holds no grant and no entry (R29). -/
def Faulted (t : State) (b : Berth) (c : FaultCause) : Prop :=
  (t.bu b).st = .faulted ∧ (t.bu b).lastFault = some c ∧ HoldsNothing t b

/-- The notices that wait, the one being sent first (R199, R200). -/
def SupervisoryPort.noticeLine (p : SupervisoryPort) : List NumberedNotice :=
  match p.sending with
  | some (.notice n) => n :: p.notices
  | _ => p.notices

/-- A notice has been posted: it stands behind those that waited before, or a full queue has discarded a notice (R200). -/
def Posted (s t : State) (n : Notice) : Prop :=
  t.port.overflow = true ∨ ∃ k ∈ t.port.noticeLine.drop s.port.noticeLine.length, k.notice = n

/-- The berth waits neither for a forward permit nor for a cable test, so that no give and no assignment takes it out of a supplied
state (R67, R143). -/
def NoForwardStepWaits (s : State) (b : Berth) : Prop :=
  (∀ e ∈ s.transfer.line, e.berth = b → e.cls = .returning) ∧ ∀ e ∈ s.tests.queue, e.berth ≠ b

/-- A fault is reported: FAULT is posted, and OPENED with the cause given to the ship where the breaker had been closed (R29, R63;
log 18). -/
def FaultReported (s t : State) (b : Berth) (c : FaultCause) : Prop :=
  Posted s t (.fault b c) ∧ (s.hadClosed b = true → Given t b (.opened (.fault c)))

/-- The breaker is reported open, or commanded open under the open supervision (R173). -/
def Opening (t : State) (b : Berth) : Prop :=
  t.breaker b ≠ .opened → (t.bu b).breakerCmd = some .opening ∧ (t.pb b).openSup.isSome = true

/-- No close command stands at the berth's breaker, and no close supervision runs (R20, R173). -/
def NoClose (t : State) (b : Berth) : Prop := (t.bu b).breakerCmd ≠ some .close ∧ (t.pb b).closeSup = none

/-- A close that fell due has been turned away with a cause: the berth faulted, no close standing (R20, R169, R175). -/
def CloseTurnedAway (t : State) (b : Berth) (c : FaultCause) : Prop := Faulted t b c ∧ NoClose t b ∧ Opening t b

/-- The bids of a HELLO stand in the record as `recordBids` writes them (R54, R87). -/
def BidsRecorded (s t : State) (b : Berth) (h : Hello) : Prop :=
  (t.bu b).bidMin = ((s.recordBids b h).bu b).bidMin ∧ (t.bu b).bidFull = ((s.recordBids b h).bu b).bidFull
    ∧ (t.bu b).minEff = ((s.recordBids b h).bu b).minEff ∧ (t.bu b).fullEff = ((s.recordBids b h).bu b).fullEff

/-! ## Values the statements name -/

/-- The cause with which a close that falls due is refused, for the earthing switch or the pilot loop, or withdrawn as it is given,
under selected trip or the group's backup trip; none where it stands (R20, R169, R175; logs 12 and 49). -/
def State.closeRefusal (s : State) (b : Berth) : Option FaultCause :=
  if s.switch b ≠ some .opened then some .earthSwitch
  else if (s.ln b).pilotContinuous = false then some .pilotOpen
  else
    match s.selectedTrip b with
    | some c => some c
    | none => if s.output (s.bset b).group then some .backupTrip else none

/-- The cause with which a berth found with its breaker closed at a start faults (R184; log 60). -/
def State.foundFault (s : State) (b : Berth) : Option FaultCause :=
  if s.lines.estop then some .estop else if (s.ln b).pilotContinuous = false then some .pilotOpen else s.selectedTrip b

/-- A numeric setting outside its range is taken as the nearer end (R203). -/
def nearest (lo hi v : Nat) : Nat := max lo (min hi v)

/-- The range of each numeric setting (Table 10-1). -/
def settingRange : SettingName → Nat × Nat
  | .nativeLimit => (500, 20000)
  | .reserve => (0, 2000)
  | .modulesInstalled => (1, 8)
  | .eff => (85, 99)
  | .suspThreshold => (0, 8)
  | .bankSettle => (5, 120)
  | .bankIdleStop => (1, 60)
  | .contactLimit => (5, 120)
  | .readyLimit => (60, 1800)
  | .syncLimit => (30, 600)
  | .parallelLimit => (10, 300)
  | .returnParallelLimit => (10, 300)
  | .takeBackLimit => (60, 900)
  | .slipLimit => (20, 250)
  | .angleLimit => (200, 2000)
  | .voltageLimit => (10, 100)
  | .dwellN => (1, 10)
  | .closingTime => (20, 250)
  | .reverseLimit => (1, 20)
  | .reverseTime => (1, 10)
  | .overdrawMargin => (100, 130)
  | .overdrawLimit => (10, 600)
  | .earthLimit => (50, 1000)
  | .insulationMin => (1, 100)
  | .outletRating _ => (100, 3000)

/-- A berth that answered the resume CALL with generators online (R189). -/
def State.answeredLoaded (s : State) (b : Berth) : Bool :=
  (s.bu b).st == .adopted && (s.bu b).answered && (s.bu b).gens != some 0

/-- A berth of a lower number answered the resume CALL with generators online (R189). -/
def State.loadedBefore (s : State) (c : Berth) : Bool :=
  Berth.all.any fun d => decide (d.number < c.number) && s.answeredLoaded d

/-- The draw of an adopted berth's adopted grant (R185, R186). -/
def State.adoptedDraw (s : State) (k : StartKind) (b : Berth) : Nat := drawOf (s.cls b) s.set.eff (s.adoptedGrant k b)

/-- The adopted berths that the feeder fill grants, in berth number order: each whose draw stays within the native limit behind those
before it (R186 step 1). -/
def State.feederFill (s : State) (k : StartKind) : List Berth :=
  (Berth.all.filter s.adopted).foldl
    (fun filled b => if (filled.map (s.adoptedDraw k)).sum + s.adoptedDraw k b ≤ s.set.nativeLimit then filled ++ [b] else filled) []

/-- Of those, the berths that the converter shed leaves: from the last, each F60 berth goes while the F60 grants lie above the capacity
(R186 step 3). -/
def State.converterFill (s : State) (k : StartKind) : List Berth :=
  let sum60 (l : List Berth) : Nat := ((l.filter fun b => s.cls b == .f60).map (s.adoptedGrant k)).sum
  (s.feederFill k).reverse.foldl
    (fun kept b => if sum60 kept ≤ s.capacity ∨ s.cls b ≠ .f60 then kept else kept.filter fun c => c != b) (s.feederFill k)

/-- What START says of an adopted berth (R191). -/
def State.fillLine (s : State) (k : StartKind) (b : Berth) : FillLine :=
  { berth := b, grant := s.adoptedGrant k b, draw := s.adoptedDraw k b,
    outcome :=
      if (s.converterFill k).contains b then .granted
      else if (s.feederFill k).contains b then .shedByConverter
      else .shedByFeeder }

/-- A HELLO names no class but those recorded; a class not recorded differs from none (R32; log 23). -/
def SameClasses (u : BerthUnit) (h : Hello) : Bool :=
  (u.vclass == none || u.vclass == some h.vclass) && (u.sclass == none || u.sclass == some h.sclass)

/-! ## Conditions of every run -/

/-- No berth is left unanswered in an open resume round: the close has been made (R187). -/
def Rests (s : State) : Prop := s.transfer.resumeRound = true → Berth.all.any s.unanswered = true

/-- The bounds of the port: its order buffer (R194), its Notice Queue and notice counter (R200). -/
def PortBounded (s : State) : Prop := s.port.slots.length ≤ 2 ∧ s.port.notices.length ≤ 32 ∧ s.port.counter < 65536

/-- The bounds of the transmit queues: 16 frames, of them at most one SHORE_STATE and at most one MATCH (R46). -/
def QueuesBounded (s : State) : Prop :=
  ∀ b : Berth, (s.ch b).queue.length ≤ 16 ∧ ((s.ch b).queue.filter QuayMsg.isShoreState).length ≤ 1
    ∧ ((s.ch b).queue.filter QuayMsg.isMatch).length ≤ 1

/-- No berth stands twice in the Test Queue, none in it is under test, and the two units serve different berths (R65, R66). -/
def TestsApart (s : State) : Prop :=
  (s.tests.queue.map TestEntry.berth).Nodup
    ∧ (∀ b : Berth, s.tests.unitA.berth = some b → ¬ b ∈ s.tests.queue.map TestEntry.berth ∧ s.tests.unitB.berth ≠ some b)
    ∧ ∀ b : Berth, s.tests.unitB.berth = some b → ¬ b ∈ s.tests.queue.map TestEntry.berth

/-- The Admission Queue holds one entry per berth, and no pass-over count above 3 (R90, R95). -/
def EntriesApart (s : State) : Prop :=
  (s.budget.queue.map AdmEntry.berth).Nodup ∧ ∀ e ∈ s.budget.queue, e.passOver ≤ 3

/-- A settings record that differs from the one in force in a budget setting is being written (R203). -/
def State.budgetWritten (s : State) : Bool :=
  match s.store.running with
  | some (.settings r _) => budgetDiffers r s.set
  | _ => false

/-- The books of the feeder budget as the rules keep them: every draw is that of its grant (R86), no grant lies below its min′ (R87),
none is held in the start window (R185) or while a record with other budget settings is written (R203), and a granted berth whose
class is its selector's stands on supply with that selector confirmed and watched (R177, R185). -/
def BooksKept (s : State) : Prop :=
  0 < s.set.eff ∧ s.set.eff ≤ 100
    ∧ (∀ b : Berth, (s.bu b).draw = drawOf (s.cls b) s.set.eff (s.bu b).grant)
    ∧ (∀ b : Berth, (s.bu b).grant ≠ 0 → (s.bu b).minEff.getD 0 ≤ (s.bu b).grant)
    ∧ (s.start.isSome = true → ∀ b : Berth, (s.bu b).grant = 0)
    ∧ (s.budgetWritten = true → ∀ b : Berth, (s.bu b).grant = 0)
    ∧ ∀ b : Berth, (s.bu b).grant ≠ 0 → (s.bu b).sclass = none →
        s.breaker b = .closed ∧ (s.bu b).selectorWatched = true ∧ (s.selector b).isSome = true
          ∧ (s.pb b).selectorConfirmed = s.selector b

/-- The Permit Line holds one entry per berth, none of the permit holder, and a berth in ADOPTED stands apart from the steps of the
sequence: it neither holds the permit nor waits for it, and neither waits for a cable test nor is under one (R31, R65, R143). -/
def PermitApart (s : State) : Prop :=
  (s.transfer.line.map LineEntry.berth).Nodup
    ∧ (∀ b : Berth, s.transfer.holder = some b → ¬ b ∈ s.transfer.line.map LineEntry.berth)
    ∧ ∀ b : Berth, (s.bu b).st = .adopted →
        s.transfer.holder ≠ some b ∧ ¬ b ∈ s.transfer.line.map LineEntry.berth
          ∧ s.servedBy b = none ∧ ¬ b ∈ s.tests.queue.map TestEntry.berth

/-- The states in which a berth may hold the permit (R142): SYNC, PARALLEL and RETURN. -/
def BState.mayHoldPermit : BState → Bool
  | .sync _ | .parallel | .returning _ => true
  | _ => false

/-- A berth stands in the state that what it holds or waits for belongs to: the permit in SYNC, PARALLEL or RETURN alone (R142), an
entry of the Permit Line in WAIT_PERMIT or LINE_WAIT by its class (R143), a test unit in TESTING and a place in the Test Queue in
TEST_WAIT (R65, R66), an ADMIT entry in QUEUED (R90), the retest delay in RETEST_DELAY and the ready limit in READY. -/
def Placed (s : State) (b : Berth) : Prop :=
  (s.transfer.holder = some b → (s.bu b).st.mayHoldPermit = true)
    ∧ ((s.bu b).st.mayHoldPermit = true → (s.bu b).st ≠ .returning .lineWait → s.transfer.holder = some b)
    ∧ (∀ e ∈ s.transfer.line, e.berth = b →
        (s.bu b).st = match e.cls with
          | .forward => .ready .waitPermit
          | .returning => .returning .lineWait)
    ∧ ((s.servedBy b).isSome = true → (s.bu b).st = .test .testing)
    ∧ ((∃ e ∈ s.tests.queue, e.berth = b) → (s.bu b).st = .test .testWait)
    ∧ (s.queueEntry b = some .admission → (s.bu b).st = .queued)
    ∧ ((s.bu b).timers.retest.isSome = true → (s.bu b).st = .test .retestDelay)
    ∧ ((s.bu b).timers.ready.isSome = true → ∃ x, (s.bu b).st = .ready x)

/-- Every berth is placed, and a timer of the Transfer Unit runs for a holder in the state it belongs to alone (Table 6-2). -/
def AllPlaced (s : State) : Prop :=
  (∀ b : Berth, Placed s b)
    ∧ (s.transfer.sync.isSome = true → ∃ b, s.transfer.holder = some b ∧ (s.bu b).st = .sync .checking)
    ∧ (s.transfer.parallel.isSome = true → ∃ b, s.transfer.holder = some b ∧ (s.bu b).st = .parallel)
    ∧ (s.transfer.reverse.isSome = true → ∃ b, s.transfer.holder = some b ∧ (s.bu b).st = .parallel)
    ∧ (s.transfer.gensOn.isSome = true → ∃ b, s.transfer.holder = some b ∧ (s.bu b).st = .returning .gensWait)
    ∧ (s.transfer.returnParallel.isSome = true → ∃ b, s.transfer.holder = some b ∧ (s.bu b).st = .returning .returnParallel)

/-- A close command stands only at a powered unit, in OPEN_CLOSE or SYNC CLOSING, with the pilot loop continuous and the earthing
switch reported open (R20). -/
def ClosesStand (s : State) : Prop :=
  ∀ b : Berth, (s.bu b).breakerCmd = some .close →
    s.powered = true ∧ ((s.bu b).st = .ready .openClose ∨ (s.bu b).st = .sync .closing)
      ∧ (s.ln b).pilotContinuous = true ∧ s.switch b = some .opened

end Sys2Proof.Machine
end

