-- ==== Sys2Proof/Certificates/Slice0/Obligations.lean ====
section
/-! DEFINITION. The statements for the provers: what the unit's rules say of its commands, over every state. -/

section

open Sys2Proof Sys2Proof.Machine

/-! ## The step -/

/-- A step runs the command at the front of the queue on the state with the queue's rest. -/
def Obligations.StepTakesFront : Prop :=
  ∀ (c : Instr) (rest : List Instr) (s : State), s.pending = c :: rest → step s = exec c { s with pending := rest }

/-- Every command is taken in every state and leaves the queue of waiting commands as it is. That no command stops the unit is the
model's reading of "changes nothing" (log 2). -/
def Obligations.CommandsKeepTheQueue : Prop :=
  ∀ (c : Instr) (s : State), Goes (exec c s) fun t => t.pending = s.pending

/-- A wired input changes by the row that carries it, which sets exactly its own wires, and by no other command. -/
def Obligations.WiresChangeByTheirRows : Prop :=
  ∀ (c : Instr) (s : State), Goes (exec c s) fun t => t.lines = c.linesAfter s.lines

/-- What only a few rows change: the settings in force and the stored records by the end of a write (and the load at a cold start),
the curtail target by CURTAIL, the last good indexes by a measurement, the holder lists by the rows of R175 and R176; the supply's
rows apart. -/
def Obligations.KeptStateChangesByItsRows : Prop :=
  ∀ (c : Instr) (s : State), c.isSupply = false →
    Goes (exec c s) fun t =>
      ((∀ p : Bool, c ≠ .storeWriteComplete p) →
          t.store.inForce = s.store.inForce ∧ t.store.storedSettings = s.store.storedSettings
            ∧ t.store.storedHistory = s.store.storedHistory ∧ t.store.storedTarget = s.store.storedTarget)
        ∧ (c ≠ .curtail → t.budget.target = s.budget.target)
        ∧ ((∀ (u : TestUnit) (r : Nat) (d : Bool), c ≠ .measurementIntervalExpiry u r d) → t.tests.lastGood = s.tests.lastGood)
        ∧ (c.touchesHolders = false →
            t.protect.holdersA = s.protect.holdersA ∧ t.protect.holdersB = s.protect.holdersB)

/-- A command that names a berth, the open supervision's expiry with its trip of a group apart, leaves what the unit knows of every
other berth's ship as it is: its identity, classes, modes, bids and
generators, its last fault, its plug latches, its meter quantities, and the link, loss timer, beacon and framer of its channel. -/
def Obligations.BerthCommandsKeepOtherShips : Prop :=
  ∀ (i : Instr) (b c : Berth) (s : State), i.berth? = some b → i ≠ .openSupervisionExpiry b → c ≠ b →
    Goes (exec i s) fun t =>
      (t.bu c).identity = (s.bu c).identity ∧ (t.bu c).vclass = (s.bu c).vclass ∧ (t.bu c).sclass = (s.bu c).sclass
        ∧ (t.bu c).modes = (s.bu c).modes ∧ (t.bu c).bidMin = (s.bu c).bidMin ∧ (t.bu c).bidFull = (s.bu c).bidFull
        ∧ (t.bu c).gens = (s.bu c).gens ∧ (t.bu c).lastFault = (s.bu c).lastFault ∧ (t.bu c).attachSeen = (s.bu c).attachSeen
        ∧ (t.bu c).detachSeen = (s.bu c).detachSeen ∧ (t.bu c).lastKva = (s.bu c).lastKva ∧ (t.bu c).report = (s.bu c).report
        ∧ (t.bu c).timers.freshness = (s.bu c).timers.freshness ∧ (t.ch c).link = (s.ch c).link ∧ (t.ch c).loss = (s.ch c).loss
        ∧ (t.ch c).beacon = (s.ch c).beacon ∧ (t.ch c).held = (s.ch c).held

/-! ## Reset and the conditions every step keeps -/

/-- Right after reset: both test units FREE with an empty Test Queue and index 0 at every berth, the permit free and the line empty,
an empty Admission Queue with both counters 0, no holder and no output, an empty port with its flags clear, and the conditions that
every step keeps: no close command stands, and every berth is in the state that what it waits for belongs to. That the reset state
is a unit whose start is over (START posted and sent, the notice counter at 0 and no berth adopted) is the model's choice (log 5).
-/
def Obligations.ResetLeavesUnitsFree : Prop :=
  State.reset.tests = .cold ∧ State.reset.tests.queue = [] ∧ State.reset.tests.lastGood = .const 0
    ∧ State.reset.transfer.holder = none ∧ State.reset.transfer.line = []
    ∧ State.reset.budget.queue = [] ∧ State.reset.budget.seqCounter = 0 ∧ State.reset.budget.joinCounter = 0
    ∧ State.reset.output .a = false ∧ State.reset.output .b = false
    ∧ State.reset.port.slots = [] ∧ State.reset.port.notices = [] ∧ State.reset.port.counter = 0
    ∧ State.reset.port.prepared = false ∧ State.reset.port.sequenceError = false ∧ State.reset.port.overflow = false
    ∧ (∀ b : Berth, (State.reset.bu b).grant = 0 ∧ (State.reset.bu b).seq = none ∧ (State.reset.ch b).link = .down)
    ∧ PortBounded State.reset ∧ QueuesBounded State.reset ∧ TestsApart State.reset ∧ EntriesApart State.reset
    ∧ PermitApart State.reset ∧ Rests State.reset ∧ AllPlaced State.reset ∧ ClosesStand State.reset

/-- Every step keeps the bounds of the order buffer, the Notice Queue and the notice counter. -/
def Obligations.StepKeepsPortBounds : Prop :=
  ∀ s t : State, PortBounded s → step s = .next t → PortBounded t

/-- Every step keeps the bounds of the transmit queues. -/
def Obligations.StepKeepsTransmitQueues : Prop :=
  ∀ s t : State, QueuesBounded s → step s = .next t → QueuesBounded t

/-- Every step keeps waiting and testing berths apart. -/
def Obligations.StepKeepsTestQueue : Prop :=
  ∀ s t : State, TestsApart s → step s = .next t → TestsApart t

/-- Every step keeps the Admission Queue at one entry per berth and its counts within 3; and with the books kept it keeps the sum of
draws within the working limit (R102) and, with the count that of the Module Table, the F60 grants within 250 kVA per counted module
(R107). The books are what other rules keep (R86, R87, R177, R185, R203) and stand here as premises; that every step keeps them is
not claimed, since a berth adopted with its selector at no position lies outside them (log 58). -/
def Obligations.StepKeepsAdmissionQueue : Prop :=
  ∀ s t : State, step s = .next t →
    (EntriesApart s → EntriesApart t)
      ∧ (BooksKept s → s.drawSum ≤ s.budget.working → t.drawSum ≤ t.budget.working)
      ∧ (BooksKept s → s.bank.counted = countedOf s.bank.modules → s.sum60 ≤ 250 * s.bank.counted → t.sum60 ≤ 250 * t.bank.counted)

/-- Every step keeps the Permit Line at one entry per berth and apart from the holder, and a berth in ADOPTED apart from the permit
and from the cable tests; it keeps each berth in the state that what it holds or waits for belongs to, the permit holder in SYNC,
PARALLEL or RETURN; and it keeps the line at rest: a resume round, which keeps every berth of the line from the permit, stays open
only while a berth is unanswered. That the close of the round is looked at once the event has been acted on whole is read from the
rules by inference (log 35). -/
def Obligations.StepKeepsPermitLine : Prop :=
  ∀ s t : State, step s = .next t → (PermitApart s → PermitApart t) ∧ (Rests s → Rests t)
      ∧ (PermitApart s → TestsApart s → EntriesApart s → AllPlaced s → AllPlaced t)

/-! ## What no command does -/

/-- A close command comes to stand at a breaker only with the pilot loop continuous, the earthing switch reported open, no selected
trip and no backup trip of the group; and every command keeps that one stands only in OPEN_CLOSE or SYNC CLOSING, with the pilot
loop continuous and the earthing switch reported open. The earthing switch comes to be commanded closed only while the breaker is
reported open. -/
def Obligations.CommandsStandSafely : Prop :=
  ∀ (c : Instr) (s t : State) (b : Berth), exec c s = .next t →
    ((s.bu b).breakerCmd ≠ some .close → (t.bu b).breakerCmd = some .close →
        (t.ln b).pilotContinuous = true ∧ t.switch b = some .opened ∧ t.selectedTrip b = none
          ∧ t.output (t.bset b).group = false)
      ∧ (PermitApart s → AllPlaced s → ClosesStand s → ClosesStand t)
      ∧ ((s.bu b).switchCmd ≠ some .closed → (t.bu b).switchCmd = some .closed → t.breaker b = .opened)

/-- A FREE test unit takes a test only while E-stop is inactive. -/
def Obligations.NoTestBeginsUnderEstop : Prop :=
  ∀ (c : Instr) (s t : State) (u : TestUnit),
    exec c s = .next t → s.unit u = .free → t.unit u ≠ .free → t.lines.estop = false

/-! ## Quantities -/

/-- The draw of a grant: the grant at F50; at F60 the least multiple of 10 whose product with eff is at least 100 times the grant; 0
for a grant of 0. It is computed each time a grant is written and written with it. -/
def Obligations.DrawOfGrant : Prop :=
  (∀ eff g : Nat, drawOf .f50 eff g = g)
    ∧ (∀ eff g : Nat, 0 < eff →
        10 ∣ drawOf .f60 eff g ∧ 100 * g ≤ drawOf .f60 eff g * eff
          ∧ ∀ d : Nat, 10 ∣ d → 100 * g ≤ d * eff → drawOf .f60 eff g ≤ d)
    ∧ (∀ (c : SClass) (eff : Nat), drawOf c eff 0 = 0)
    ∧ ∀ (s : State) (b : Berth) (g : Nat) (q : Option Nat),
        ((s.writeGrant b g q).bu b).grant = g ∧ ((s.writeGrant b g q).bu b).draw = drawOf (s.cls b) s.set.eff g
          ∧ ((s.writeGrant b g q).bu b).seq = q

/-- The bids of a HELLO as recorded: each at most 3,000, the full bid at least 10, the minimum not above the full; full′ and min′
are computed from them by the outlet rating, rounded up to multiples of 10, min′ bounded by a grant held. -/
def Obligations.BidsAreClampedAndRecorded : Prop :=
  ∀ (s : State) (b : Berth) (h : Hello),
    let full := max 10 (min h.bidFull.toNat 3000)
    let mn := min (min h.bidMin.toNat 3000) full
    let u := (s.recordBids b h).bu b
    let fullEff := (min full (s.bset b).outletRating + 9) / 10 * 10
    let minEff := (min mn fullEff + 9) / 10 * 10
    u.bidFull = some full ∧ u.bidMin = some mn ∧ u.fullEff = some fullEff
      ∧ u.minEff = some (if (s.bu b).grant = 0 then minEff else min minEff (s.bu b).grant)
      ∧ u.modes = some h.modes ∧ u.gens = some h.gens ∧ (s.recordBids b h).lines = s.lines
      ∧ ∀ c : Berth, c ≠ b → (s.recordBids b h).bu c = s.bu c

/-! ## The Supervisory Link Port -/

/-- A frame that passes its check: an order enters a slot, or is answered FULL; any other frame is answered REFUSED (RANGE). An
answer at arrival is discarded where one is held. The two flags of the prepare sequence stand. -/
def Obligations.HostFrameIsJudged : Prop :=
  ∀ (s : State) (tag kind : Byte) (body : List Byte), s.powered = true →
    Goes (exec (.hostFrameReceived tag kind body) s) fun t =>
      OnlyPort s t ∧ t.port.notices = s.port.notices ∧ t.port.prepared = s.port.prepared
        ∧ t.port.sequenceError = s.port.sequenceError
        ∧ match orderOfCode kind with
          | some k =>
            if tag ≠ 0 ∧ body.length = orderLength k then
              if s.port.slots.length < 2 then
                t.port.slots = s.port.slots ++ [{ tag := tag, kind := k, body := body, taken := false }]
                  ∧ t.port.replies = s.port.replies ∧ t.port.sending = s.port.sending
              else
                t.port.slots = s.port.slots ∧ (s.port.immediateHeld = false → Replied t tag true (.full kind))
                  ∧ (s.port.immediateHeld = true → t.port.replies = s.port.replies ∧ t.port.sending = s.port.sending)
            else
              t.port.slots = s.port.slots ∧ (s.port.immediateHeld = false → Replied t tag true (.refused kind .range))
                ∧ (s.port.immediateHeld = true → t.port.replies = s.port.replies ∧ t.port.sending = s.port.sending)
          | none =>
            t.port.slots = s.port.slots ∧ (s.port.immediateHeld = false → Replied t tag true (.refused kind .range))
              ∧ (s.port.immediateHeld = true → t.port.replies = s.port.replies ∧ t.port.sending = s.port.sending)

/-- The end of a frame frees the slot of the order whose reply it was; the next frame is the oldest reply, or the oldest notice when
no reply waits. That a frame ends by its command alone is the model's (log 6). -/
def Obligations.HostFrameSentStartsNext : Prop :=
  ∀ (s : State) (f : PortFrame), s.powered = true → s.port.sending = some f →
    Goes (exec .hostFrameSent s) fun t =>
      OnlyPort s t
        ∧ (match f with
          | .reply r => t.port.slots = if r.immediate then s.port.slots else s.port.slots.drop 1
          | .notice _ => t.port.slots = s.port.slots)
        ∧ match s.port.replies, s.port.notices with
          | r :: rest, ns => t.port.sending = some (.reply r) ∧ t.port.replies = rest ∧ t.port.notices = ns
          | [], n :: rest => t.port.sending = some (.notice n) ∧ t.port.replies = [] ∧ t.port.notices = rest
          | [], [] => t.port.sending = none ∧ t.port.replies = [] ∧ t.port.notices = []

/-- QUERY_BERTH, QUERY_QUEUE, QUERY_PERMIT, QUERY_TESTS, QUERY_MODULES and READ_SETTINGS are answered OK with their owner's state
and change nothing outside the port; a berth number outside 1 to 6 is refused NO_SUCH. QUERY_UNIT is answered with the unit's state,
the sequence error flag as the taking leaves it (9.3), and then clears the sequence error and overflow flags. That it shows the
prepared flag and the sequence error flag as the taking leaves them is read from the rules by inference (log 28). -/
def Obligations.QueriesReportAndChangeNothing : Prop :=
  ∀ (s : State) (o : Slot), Takes s o →
    (o.kind = .queryQueue → Goes (exec .queryQueue s) fun t =>
        OnlyPort s t ∧ Replied t o.tag false (.ok 0x43 (.queue s.queueReport)))
      ∧ (o.kind = .queryPermit → Goes (exec .queryPermit s) fun t =>
        OnlyPort s t ∧ Replied t o.tag false (.ok 0x44 (.permit s.permitReport)))
      ∧ (o.kind = .queryTests → Goes (exec .queryTests s) fun t =>
        OnlyPort s t ∧ Replied t o.tag false (.ok 0x45 (.tests s.testsReport)))
      ∧ (o.kind = .queryModules → Goes (exec .queryModules s) fun t =>
        OnlyPort s t ∧ Replied t o.tag false (.ok 0x46 (.modules s.modulesReport)))
      ∧ (o.kind = .readSettings → Goes (exec .readSettings s) fun t =>
        OnlyPort s t ∧ Replied t o.tag false (.ok 0x47 (.settings s.store.inForce s.writeInHand)))
      ∧ (o.kind = .queryBerth → Goes (exec .queryBerth s) fun t =>
        OnlyPort s t
          ∧ match berthOperand o.body with
            | some b => Replied t o.tag false (.ok 0x42 (.berth (s.berthReport b)))
            | none => Replied t o.tag false (.refused 0x42 .noSuch))
      ∧ (o.kind = .queryUnit → Goes (exec .queryUnit s) fun t =>
        OnlyPort s t
          ∧ Replied t o.tag false (.ok 0x41 (.unit
              { s.unitReport with prepared := false, sequenceError := s.port.sequenceError || s.port.prepared }))
          ∧ t.port.sequenceError = false ∧ t.port.overflow = false ∧ t.port.prepared = false
          ∧ t.port.notices = s.port.notices ∧ t.port.counter = s.port.counter)

/-- The prepare sequence, over every order taken: PREPARE sets the prepared flag, every other order clears it; an order other than
APPLY and CENSUS that finds it set, and APPLY or CENSUS that finds it clear, sets the sequence error flag; APPLY and CENSUS without
it are refused SEQUENCE and change nothing outside the port. -/
def Obligations.PrepareSequence : Prop :=
  ∀ (s : State) (o : Slot), Takes s o →
    (Goes (exec (orderRow o) s) fun t =>
      t.port.prepared = (o.kind == .prepare)
        ∧ (o.kind ≠ .queryUnit →
            t.port.sequenceError =
              (s.port.sequenceError || (if o.kind = .apply ∨ o.kind = .census then !s.port.prepared else s.port.prepared)))
        ∧ (o.kind = .apply → s.port.prepared = false → OnlyPort s t ∧ Replied t o.tag false (.refused 0x50 .sequence))
        ∧ (o.kind = .census → s.port.prepared = false → OnlyPort s t ∧ Replied t o.tag false (.refused 0x51 .sequence)))
      ∧ (o.kind = .prepare → Goes (exec .prepare s) fun t =>
          OnlyPort s t ∧ t.port.prepared = true ∧ t.port.notices = s.port.notices ∧ t.port.counter = s.port.counter
            ∧ Replied t o.tag false (.ok 0x4F .none))

/-- CURTAIL with a target of 500 to 20,000 kVA records it, taken down to a multiple of 10, with its mark, sets the working limit and
the pending mark, hands a persistent target to the store, and is answered OK, or CLAMPED with the working limit where that is not
the target asked. No grant rises; where the sum of draws exceeds the new working limit, grants that are REDUCIBLE fall, none below
its min′, until the sum is within it (draws and min′ as the rules keep them), and otherwise every grant stands. Any other target or
mark is refused RANGE. -/
def Obligations.CurtailSetsWorkingLimit : Prop :=
  ∀ (s : State) (o : Slot), Takes s o → o.kind = .curtail →
    Goes (exec .curtail s) fun t =>
      let asked := halfAt o.body 0
      let target := asked / 10 * 10
      match markOfCode (byteAt o.body 2) with
      | some m =>
        if 500 ≤ asked ∧ asked ≤ 20000 then
          t.budget.target = some { kva := target, mark := m }
            ∧ t.budget.working = (if s.budget.working ≤ target then min target s.set.nativeLimit else max target s.floor)
            ∧ t.budget.pendingMark = (decide (target < s.budget.working) && decide (target < s.floor))
            ∧ (m = .persistent → t.store.running = some (.target target) ∨ StoreWrite.target target ∈ t.store.waiting)
            ∧ t.lines = s.lines ∧ t.tests = s.tests ∧ t.protect.holdersA = s.protect.holdersA
            ∧ Replied t o.tag false
                (if asked ≠ target ∨ (if s.budget.working ≤ target then s.set.nativeLimit < target else target < s.floor) then
                  .clamped 0x48 (.workingLimit t.budget.working)
                else .ok 0x48 .none)
            ∧ (∀ b : Berth, (t.bu b).grant = (s.bu b).grant
                ∨ ((t.bu b).grant < (s.bu b).grant ∧ (s.bu b).irreducible = false
                    ∧ (s.bu b).minEff.getD 0 ≤ (t.bu b).grant ∧ t.budget.working < s.drawSum))
            ∧ ((∀ b : Berth, (s.bu b).draw = drawOf (s.cls b) s.set.eff (s.bu b).grant
                  ∧ ((s.bu b).grant ≠ 0 → (s.bu b).minEff.getD 0 ≤ (s.bu b).grant)) → 0 < s.set.eff →
                target < s.budget.working → t.drawSum ≤ t.budget.working)
        else OnlyPort s t ∧ Replied t o.tag false (.refused 0x48 .range)
      | none => OnlyPort s t ∧ Replied t o.tag false (.refused 0x48 .range)

/-- RELEASE without FORCE: a body that names no berth is refused NO_SUCH, a force field outside its codes RANGE. By state (Table
1-4): in PARALLEL, LINK_HOLD and ADOPTED release-pending alone is set; in SUPPLIED the shore-initiated return begins; in RETURN
nothing changes; before the breaker closes the berth gives up all it holds, its permit, its test unit and its place in the Test
Queue with it, and enters RELEASED, or goes on to VACANT (and PROBE) where the plug had gone; from READY after GRANT its ship is
sent GRANT with a grant of 0, and from SYNC SYNC_ABANDONED. -/
def Obligations.ReleaseByState : Prop :=
  ∀ (s : State) (o : Slot), Takes s o → o.kind = .release → byteAt o.body 1 ≠ 1 →
    Goes (exec .release s) fun t =>
      match berthOperand o.body with
      | none => OnlyPort s t ∧ Replied t o.tag false (.refused 0x49 .noSuch)
      | some b =>
        if byteAt o.body 1 ≠ 0 then OnlyPort s t ∧ Replied t o.tag false (.refused 0x49 .range)
        else
          match (s.bu b).st with
          | .vacant | .released _ | .faulted | .blocked => OnlyPort s t ∧ Replied t o.tag false (.refused 0x49 .state)
          | .returning _ => OnlyPort s t ∧ Replied t o.tag false (.ok 0x49 .none)
          | .parallel | .adopted | .onShore .linkHold =>
            t = { s with port := t.port, berths := s.berths.set b { s.bu b with releasePending := true } }
              ∧ Replied t o.tag false (.ok 0x49 .none)
          | .onShore .supplied =>
            t = { s with
                  port := t.port
                  channels := s.channels.set b (t.ch b)
                  berths := s.berths.set b
                    { s.bu b with releasePending := true, timers := { (s.bu b).timers with answer := some (s.now + 60000) } } }
              ∧ Given t b .takebackOrder ∧ Replied t o.tag false (.ok 0x49 .none)
          | st =>
            HoldsNothing t b ∧ Replied t o.tag false (.ok 0x49 .none) ∧ t.lines = s.lines
              ∧ ((s.bu b).detachSeen = false → (t.bu b).st = .released .earthing ∨ (t.bu b).st = .released .earthed)
              ∧ ((s.bu b).detachSeen = true → (t.bu b).st = if s.present b then .probe .quiet else .vacant)
              ∧ ((s.bu b).detachSeen = false → (∃ x, st = .ready x) → (s.bu b).grantSent = true →
                  Given t b (.grant 0 (s.bu b).minEff (s.bu b).fullEff false))
              ∧ ((s.bu b).detachSeen = false → (∃ x, st = .sync x) → Given t b .syncAbandoned)
              ∧ (PermitApart s → t.permit b = .none)
              ∧ (TestsApart s → t.servedBy b = none ∧ ∀ e ∈ t.tests.queue, e.berth ≠ b)

/-- RELEASE with FORCE of a supplied berth: the breaker is commanded open, OPENED (FORCED) is sent, and the berth gives up all it
holds, the permit or its entry in the Permit Line, its test unit and its place in the Test Queue too, and enters RELEASED, or goes
on to VACANT (and PROBE) where the plug had gone. Elsewhere it acts as RELEASE without FORCE: from READY after GRANT its ship is
sent GRANT with a grant of 0, and from SYNC SYNC_ABANDONED. A body that names no berth is refused NO_SUCH. -/
def Obligations.ReleaseForceSeparates : Prop :=
  ∀ (s : State) (o : Slot), Takes s o → o.kind = .release → byteAt o.body 1 = 1 →
    Goes (exec .releaseForce s) fun t =>
      match berthOperand o.body with
      | none => OnlyPort s t ∧ Replied t o.tag false (.refused 0x49 .noSuch)
      | some b =>
        match (s.bu b).st with
        | .vacant | .released _ | .faulted | .blocked => OnlyPort s t ∧ Replied t o.tag false (.refused 0x49 .state)
        | _ =>
          HoldsNothing t b ∧ Replied t o.tag false (.ok 0x49 .none) ∧ t.lines = s.lines
            ∧ (PermitApart s → t.permit b = .none)
            ∧ (TestsApart s → t.servedBy b = none ∧ ∀ e ∈ t.tests.queue, e.berth ≠ b)
            ∧ (PermitApart s → (s.bu b).detachSeen = false →
                (t.bu b).st = .released .earthing ∨ (t.bu b).st = .released .earthed)
            ∧ (PermitApart s → (s.bu b).detachSeen = true → (t.bu b).st = if s.present b then .probe .quiet else .vacant)
            ∧ (PermitApart s → (s.bu b).detachSeen = false → (s.bu b).st.supplied = true →
                Given t b (.opened .forced) ∧ Opening t b)
            ∧ ((s.bu b).detachSeen = false → (∃ x, (s.bu b).st = .ready x) → (s.bu b).grantSent = true →
                Given t b (.grant 0 (s.bu b).minEff (s.bu b).fullEff false))
            ∧ ((s.bu b).detachSeen = false → (∃ x, (s.bu b).st = .sync x) → Given t b .syncAbandoned)

/-- BLOCK in VACANT, RELEASED and FAULTED leads to BLOCKED with the earthing procedure, the last fault cause and the plug latch as
they were; a FAULTED berth that BLOCK exposes under a selected trip, its breaker closed or a close outstanding, faults with the
cause of that trip (R169). In every other state BLOCK is refused STATE, and with a body that names no berth NO_SUCH. That a berth of
VACANT or RELEASED, exposed before, is not faulted by its BLOCK is the model's choice (log 59). -/
def Obligations.BlockByState : Prop :=
  ∀ (s : State) (o : Slot), Takes s o → PermitApart s → o.kind = .block →
    Goes (exec .block s) fun t =>
      match berthOperand o.body with
      | none => OnlyPort s t ∧ Replied t o.tag false (.refused 0x4A .noSuch)
      | some b =>
        match (s.bu b).st with
        | .vacant | .released _ | .faulted =>
          HoldsNothing t b ∧ Replied t o.tag false (.ok 0x4A .none) ∧ t.lines = s.lines
            ∧ match (if (s.bu b).st = .faulted ∧ (s.breaker b = .closed ∨ s.closeOutstanding b = true) then s.selectedTrip b
                else none) with
              | none =>
                (t.bu b).st = .blocked ∧ (t.bu b).earthing = (s.bu b).earthing ∧ (t.bu b).lastFault = (s.bu b).lastFault
                  ∧ (t.bu b).attachSeen = (s.bu b).attachSeen ∧ (t.bu b).detachSeen = (s.bu b).detachSeen
              | some c =>
                (s.bu b).detachSeen = false → Faulted t b c ∧ Opening t b ∧ NoClose t b ∧ Posted s t (.fault b c)
        | _ => OnlyPort s t ∧ Replied t o.tag false (.refused 0x4A .state)

/-- UNBLOCK in BLOCKED leads to VACANT, and at once to PROBE where presence is detected, with the last fault cause and the last test
result kept, and the plug latch too unless the berth leaves VACANT; in every other state it is refused STATE, and with a body that
names no berth NO_SUCH. -/
def Obligations.UnblockLeadsToVacant : Prop :=
  ∀ (s : State) (o : Slot), Takes s o → o.kind = .unblock →
    Goes (exec .unblock s) fun t =>
      match berthOperand o.body with
      | none => OnlyPort s t ∧ Replied t o.tag false (.refused 0x4B .noSuch)
      | some b =>
        if (s.bu b).st = .blocked then
          (t.bu b).st = (if s.present b then .probe .quiet else .vacant) ∧ (t.bu b).lastFault = (s.bu b).lastFault
            ∧ t.tests = s.tests ∧ Replied t o.tag false (.ok 0x4B .none)
            ∧ (s.present b = false →
                (t.bu b).attachSeen = (s.bu b).attachSeen ∧ (t.bu b).detachSeen = (s.bu b).detachSeen)
            ∧ (∀ c : Berth, c ≠ b → t.bu c = s.bu c ∧ t.ch c = s.ch c) ∧ t.lines = s.lines ∧ t.budget = s.budget
        else OnlyPort s t ∧ Replied t o.tag false (.refused 0x4B .state)

/-- CLEAR in FAULTED on the conditions of R180 takes the berth to RELEASED, or on to VACANT and PROBE where the plug had gone, and
out of its holder list. REINIT in VACANT, RELEASED and BLOCKED, and in FAULTED on those conditions, sets the record to its REINIT
values of Table 1-3, restarts the channel, clears the test result but not the good index, leads to VACANT or PROBE, and takes the
berth's entry out of its holder list where the breaker is reported open, else sets its cleared mark (R176). Otherwise they are
refused STATE, and with a body that names no berth NO_SUCH. -/
def Obligations.ClearAndReinitByState : Prop :=
  ∀ (s : State) (o : Slot), Takes s o → PermitApart s →
    (o.kind = .clear → Goes (exec .clear s) fun t =>
        match berthOperand o.body with
        | none => OnlyPort s t ∧ Replied t o.tag false (.refused 0x4C .noSuch)
        | some b =>
          if (s.bu b).st = .faulted ∧ s.clearable b = true then
            Replied t o.tag false (.ok 0x4C .none) ∧ HoldsNothing t b ∧ t.lines = s.lines
              ∧ (∀ g : Group, t.holders g = (s.holders g).filter fun h => h.berth != b)
              ∧ ((s.bu b).detachSeen = false → (t.bu b).st = .released .earthing ∨ (t.bu b).st = .released .earthed)
              ∧ ((s.bu b).detachSeen = true → (t.bu b).st = (if s.present b then .probe .quiet else .vacant))
          else OnlyPort s t ∧ Replied t o.tag false (.refused 0x4C .state))
      ∧ (o.kind = .reinit → Goes (exec .reinit s) fun t =>
        match berthOperand o.body with
        | none => OnlyPort s t ∧ Replied t o.tag false (.refused 0x4D .noSuch)
        | some b =>
          if s.reinitTaken b = true then
            Replied t o.tag false (.ok 0x4D .none)
              ∧ (t.bu b).st = (if s.present b then .probe .quiet else .vacant)
              ∧ (t.bu b).identity = none ∧ (t.bu b).vclass = none ∧ (t.bu b).sclass = none ∧ (t.bu b).modes = none
              ∧ (t.bu b).bidMin = none ∧ (t.bu b).bidFull = none ∧ (t.bu b).minEff = none ∧ (t.bu b).fullEff = none
              ∧ (t.bu b).gens = none ∧ (t.bu b).transferMode = none ∧ (t.bu b).syncAttempts = 0 ∧ (t.bu b).retestCount = 0
              ∧ (t.bu b).releasePending = false ∧ (t.bu b).shed = false ∧ (t.bu b).adoptedMark = false
              ∧ (t.bu b).heldUnloaded = false ∧ (t.bu b).answered = false
              ∧ (t.bu b).grant = 0 ∧ (t.bu b).draw = 0 ∧ (t.bu b).seq = none ∧ (t.bu b).lastKva = 0 ∧ (t.bu b).report = none
              ∧ (∀ g : Group, t.holders g =
                  if s.breaker b = .opened then (s.holders g).filter fun h => h.berth != b
                  else (s.holders g).map fun h => if h.berth = b then { h with cleared := true } else h)
              ∧ (t.bu b).attachSeen = false ∧ (t.bu b).detachSeen = false ∧ (t.bu b).lastFault = (s.bu b).lastFault
              ∧ (t.ch b).link = .down ∧ t.tests.results.get b = none ∧ t.tests.lastGood = s.tests.lastGood
              ∧ (∀ c : Berth, c ≠ b → t.bu c = s.bu c ∧ t.ch c = s.ch c) ∧ t.lines = s.lines ∧ t.budget = s.budget
          else OnlyPort s t ∧ Replied t o.tag false (.refused 0x4D .state))

/-- PROOF by the state of its module: a PROOF_PENDING or RETIRED module joins the proof list or is under test at once, and a STOPPED
bank is started; a module in service is refused STATE, an ABSENT one and a number that names none NO_SUCH. CENSUS after PREPARE,
with no write in hand and no bank demand, sets every installed module to PROOF_PENDING (or to PROOFING, where its test begins at
once) with strike 0 and hands the history to the store; with demand it is refused IN_USE, with a write STATE, which the model
answers too where both stand (log 71). -/
def Obligations.ProofAndCensusWithdrawModules : Prop :=
  ∀ (s : State) (o : Slot), Takes s o →
    (o.kind = .proof → Goes (exec .proof s) fun t =>
        match moduleOperand o.body with
        | none => OnlyPort s t ∧ Replied t o.tag false (.refused 0x4E .noSuch)
        | some m =>
          match (s.bank.modules.get m).st with
          | .proofPending | .retired =>
            Replied t o.tag false (.accepted 0x4E) ∧ (s.bank.st = .stopped → t.bank.st = .starting)
              ∧ (m ∈ t.bank.proofList ∨ (t.bank.modules.get m).st.isProofing = true) ∧ t.bank.counted = s.bank.counted
              ∧ (∀ b : Berth, t.bu b = s.bu b) ∧ t.lines = s.lines
          | .proofing _ =>
            Replied t o.tag false (.accepted 0x4E)
              ∧ t.bank.modules.get m = { s.bank.modules.get m with cmd := (t.bank.modules.get m).cmd }
              ∧ t.bank.proofList = s.bank.proofList
          | .absent => OnlyPort s t ∧ Replied t o.tag false (.refused 0x4E .noSuch)
          | _ => OnlyPort s t ∧ Replied t o.tag false (.refused 0x4E .state))
      ∧ (o.kind = .census → s.port.prepared = true → Goes (exec .census s) fun t =>
        if s.writeInHand = true then OnlyPort s t ∧ Replied t o.tag false (.refused 0x51 .state)
        else if s.bank.demand ≠ 0 then OnlyPort s t ∧ Replied t o.tag false (.refused 0x51 .inUse)
        else
          Replied t o.tag false (.accepted 0x51) ∧ t.store.running.map StoreWrite.kind = some .moduleHistory ∧ t.lines = s.lines
            ∧ ∀ m : Module, moduleInstalled s.set m = true →
                ((t.bank.modules.get m).st = .proofPending ∨ (t.bank.modules.get m).st.isProofing = true)
                  ∧ (t.bank.modules.get m).strike = 0 ∧ (t.bank.modules.get m).restartLimit = none)

/-- APPLY after PREPARE hands the clamped record to the write under the 3 s limit and changes nothing in force; it is refused STATE
while a write is in hand, RANGE for an enumerated field outside its codes, IN_USE where a budget setting differs while a grant is
held. Clamping takes each numeric setting to the nearer end of its range of Table 10-1, the native limit and the reserve then down
to multiples of 10, and leaves every other setting as asked. -/
def Obligations.ApplyHandsOverSettings : Prop :=
  (∀ (x : Settings) (n : SettingName),
      settingValue (clampSettings x) n =
        (let v := nearest (settingRange n).1 (settingRange n).2 (settingValue x n)
          if n = .nativeLimit ∨ n = .reserve then v / 10 * 10 else v))
    ∧ (∀ x : Settings, (clampSettings x).converterInstalled = x.converterInstalled
        ∧ ∀ b : Berth, (clampSettings x).berth.get b =
            { x.berth.get b with outletRating := settingValue (clampSettings x) (.outletRating b) })
    ∧ ∀ (s : State) (o : Slot), Takes s o → o.kind = .apply → s.port.prepared = true →
      Goes (exec .apply s) fun t =>
        match parseSettings o.body with
        | none => OnlyPort s t ∧ Replied t o.tag false (.refused 0x50 .range)
        | some asked =>
          if s.writeInHand = true then OnlyPort s t ∧ Replied t o.tag false (.refused 0x50 .state)
          else if budgetDiffers (clampSettings asked) s.set = true ∧ ∃ b ∈ Berth.all, (s.bu b).grant ≠ 0 then
            OnlyPort s t ∧ Replied t o.tag false (.refused 0x50 .inUse)
          else
            t = { s with
                  port := t.port
                  store := { s.store with
                    running := some (.settings (clampSettings asked) (budgetDiffers (clampSettings asked) s.set))
                    writeLimit := some (s.now + 3000) } }
              ∧ if clampedValues asked (clampSettings asked) = [] then Replied t o.tag false (.accepted 0x50)
                else Replied t o.tag false (.clamped 0x50 (.settings (clampedValues asked (clampSettings asked))))

/-- RESTART is refused STATE while a write is in hand. Otherwise the settings, the stored records, the curtail target, the holder
lists, the test results and good indexes are kept, the orders behind it are discarded, every link is DOWN and the Admission Queue
empty; MODULE is posted of each module whose state or strike the new table has changed. A berth found with its breaker closed is
ADOPTED with no command to its breaker, and backup-pending where its group's output is asserted; under E-stop, an open pilot loop or
a selected trip it faults with that cause and its breaker commanded open (R184; of several the first in that order, log 60). One
found open is in PROBE or VACANT by its presence, one of UNKNOWN position in FAULTED (BREAKER_CLOSE) with its breaker commanded
open, and one that stands in a backup holder list in FAULTED with the cause it had. That such a holder, its breaker open or not, is
given no further open command is read from the rules by inference (log 27), and that no warm restart counts as a start with settings
defaulted, and that it drops the commands outstanding, are the model's choices (logs 70, 82). -/
def Obligations.RestartKeepsAndAdopts : Prop :=
  ∀ (s : State) (o : Slot), Takes s o → o.kind = .restart →
    Goes (exec .restart s) fun t =>
      if s.writeInHand = true then OnlyPort s t ∧ Replied t o.tag false (.refused 0x52 .state)
      else
        Replied t o.tag false (.accepted 0x52) ∧ t.store = s.store ∧ t.budget.target = s.budget.target
          ∧ t.protect.holdersA = s.protect.holdersA ∧ t.protect.holdersB = s.protect.holdersB
          ∧ t.tests.results = s.tests.results ∧ t.tests.lastGood = s.tests.lastGood ∧ t.lines = s.lines
          ∧ (∀ x ∈ t.port.slots, x.taken = true) ∧ t.port.prepared = false ∧ t.budget.queue = []
          ∧ (∀ m : Module,
              (t.bank.modules.get m).st ≠ (s.bank.modules.get m).st ∨ (t.bank.modules.get m).strike ≠ (s.bank.modules.get m).strike →
              Posted s t
                (.module m (t.bank.modules.get m).st (t.bank.modules.get m).strike t.bank.counted t.bank.suspended))
          ∧ ∀ b : Berth, (t.ch b).link = .down ∧ (t.bu b).lastKva = (s.bu b).lastKva
              ∧ (s.breaker b = .closed → s.isHolder b = false →
                  match s.foundFault b with
                  | some c => Faulted t b c ∧ Opening t b ∧ Posted s t (.fault b c)
                  | none =>
                    (t.bu b).st = .adopted ∧ (t.bu b).breakerCmd = none ∧ t.start.isSome = true
                      ∧ (t.pb b).backupPending = if s.output (s.bset b).group then some (s.bset b).group else none)
              ∧ (s.breaker b = .opened → s.isHolder b = false →
                  (t.bu b).st = (if s.present b then .probe .quiet else .vacant) ∧ (t.bu b).lastFault = (s.bu b).lastFault)
              ∧ (s.breaker b = .unknown → s.isHolder b = false →
                  (t.bu b).st = .faulted ∧ (t.bu b).lastFault = some .breakerClose ∧ (t.bu b).breakerCmd = some .opening
                    ∧ (t.pb b).openSup.isSome = true)
              ∧ (s.isHolder b = true →
                  (t.bu b).st = .faulted ∧ (t.bu b).lastFault = (s.bu b).lastFault ∧ (t.bu b).breakerCmd = none)

/-- COLD_START loads the settings, or the defaults where the record fails, takes every block to its cold values (Table 8-2), and
places a berth with its breaker open in PROBE, VACANT or, with the settings defaulted, BLOCKED, one with an UNKNOWN position in
FAULTED (BREAKER_CLOSE) with its breaker commanded open, and one with its breaker closed in ADOPTED with no command, or in FAULTED
under E-stop, an open pilot loop or a selected trip (R184; the first of several in that order, log 60). The modules come up by the
stored history, the bank RUNNING where a breaker stands closed on the converter bus, and the Notice Queue begins with the start's
own first notice under number 1. AUXILIARY_SUPPLY_LOSS leaves the stored records and the wires as they are, releases the backup trip
outputs and leaves no command standing. The state without supply is the model's (log 4), and so is that a record once found unsound
stays so (log 39). -/
def Obligations.SupplyCommandsStartAndStop : Prop :=
  ∀ s : State,
    (∀ settings history target : Bool,
        Goes (exec (.coldStart settings history target) s) fun t =>
          let sound := settings && s.store.settingsSound
          let onBus := countBerths fun b => s.breaker b == .closed && s.selector b == some .f60
          t.powered = true ∧ t.store.inForce = (if sound then s.store.storedSettings else .default)
            ∧ t.store.storedSettings = s.store.storedSettings ∧ t.lines = s.lines ∧ t.protect.holdersA = [] ∧ t.protect.holdersB = []
            ∧ t.tests = .cold ∧ t.transfer = .started ∧ t.store.running = none ∧ t.store.waiting = []
            ∧ t.budget.queue = [] ∧ t.budget.seqCounter = 0 ∧ t.budget.joinCounter = 0 ∧ t.budget.pendingMark = false
            ∧ t.budget.target =
                (if target && s.store.targetSound then s.store.storedTarget.map fun k => { kva := k, mark := .persistent } else none)
            ∧ t.budget.working =
                (match t.budget.target with
                  | some k => min t.set.nativeLimit k.kva
                  | none => t.set.nativeLimit)
            ∧ (onBus ≠ 0 → t.bank.st = .running)
            ∧ (onBus = 0 → t.bank.st = .stopped ∨ t.bank.st = .starting) ∧ t.bank.demand = onBus
            ∧ t.bank.proofList = [] ∧ t.bank.stopDue = false ∧ t.bank.counted = countedOf t.bank.modules
            ∧ (∀ m : Module, (t.bank.modules.get m).strike = 0
                ∧ (t.bank.modules.get m).st =
                    if moduleInstalled t.set m = false then .absent
                    else if (history && s.store.historySound) = false then .proofPending
                    else
                      match s.store.storedHistory.get m with
                      | .normal => .inService
                      | .proofPending => .proofPending
                      | .retired => .retired)
            ∧ t.port.slots = [] ∧ t.port.replies = [] ∧ t.port.prepared = false ∧ t.port.sequenceError = false
            ∧ t.port.overflow = false
            ∧ (sound = false → t.port.sending = some (.notice { number := 1, notice := .settingsDefaulted }))
            ∧ (sound = true → t.port.sending =
                some (.notice { number := 1, notice := .bank (if onBus = 0 then .stopped else .running) onBus t.bank.counted }))
            ∧ ∀ b : Berth, (t.ch b).link = .down ∧ (t.bu b).grant = 0 ∧ (t.bu b).seq = none ∧ (t.bu b).identity = none
                ∧ (t.bu b).report = none ∧ (t.bu b).lastKva = 0 ∧ (t.bu b).attachSeen = false ∧ (t.bu b).detachSeen = false
                ∧ (t.bu b).shed = false ∧ (t.bu b).releasePending = false ∧ (t.pb b).closeSup = none
                ∧ (s.breaker b = .opened →
                    (t.bu b).st = (if sound then (if t.present b then .probe .quiet else .vacant) else .blocked)
                      ∧ (t.bu b).lastFault = none)
                ∧ (s.breaker b = .unknown →
                    (t.bu b).st = .faulted ∧ (t.bu b).lastFault = some .breakerClose ∧ (t.bu b).breakerCmd = some .opening
                      ∧ (t.pb b).openSup.isSome = true)
                ∧ (t.pb b).backupPending = none
                ∧ (s.breaker b = .closed →
                    match t.foundFault b with
                    | some c => Faulted t b c ∧ Opening t b
                    | none => (t.bu b).st = .adopted ∧ (t.bu b).breakerCmd = none))
      ∧ Goes (exec .auxiliarySupplyLoss s) fun t =>
        t.powered = false ∧ t.lines = s.lines ∧ t.store.storedSettings = s.store.storedSettings
          ∧ t.store.storedHistory = s.store.storedHistory ∧ t.store.storedTarget = s.store.storedTarget
          ∧ t.store.running = none ∧ t.output .a = false ∧ t.output .b = false
          ∧ ∀ b : Berth, (t.bu b).breakerCmd = none ∧ (t.bu b).switchCmd = none ∧ (t.bu b).selectorCmd = none

/-- START_WINDOW_CLOSE: the adopted berths are granted their adopted grants in berth number order as long as their draws stay within
the native limit, the rest shed; then F60 berths are shed from the highest number while the F60 grants exceed the capacity. Each
berth granted takes the next number from the counter, holds the adopted mark and is called with the resume flag under its contact
limit; each one shed goes to RETURN with TAKEBACK_ORDER, a threshold from its adopted grant and a grant of 0. The working limit is
the native limit or the larger of target and draws within it, the pending mark set where the target lies below it, and START says
which berths were granted and which shed. The first clause is for the case that all fit, where some berths may have answered already
(one that has may be reduced toward a target in the same event). That a berth may answer in the window, and is then granted and
numbered with the others but neither marked nor called, is the model's reading (log 24), and so is which measured kVA counts as kept
at a warm restart (log 80). -/
def Obligations.StartWindowGrantsAdopted : Prop :=
  ∀ (s : State) (k : StartCourse), s.powered = true → s.start = some k → (∀ c : Berth, (s.bu c).grant = 0 ∧ (s.bu c).draw = 0) →
    s.budget.seqCounter + 6 ≤ 4294967295 →
    (∀ b : Berth, (s.bu b).st = .adopted → (s.bu b).answered = false →
      sumBerths (fun c => if s.adopted c then drawOf (s.cls c) s.set.eff (s.adoptedGrant k.kind c) else 0) ≤ s.set.nativeLimit →
      sumBerths (fun c => if s.adopted c ∧ s.cls c = .f60 then s.adoptedGrant k.kind c else 0) ≤ s.capacity →
      Goes (exec .startWindowClose s) fun t =>
        t.start = none ∧ (t.bu b).st = .adopted ∧ (t.bu b).adoptedMark = true
          ∧ (t.bu b).timers.contact.isSome = true ∧ Given t b (.call b.number true) ∧ t.transfer.resumeRound = true
          ∧ (s.budget.target = none → t.budget.working = s.set.nativeLimit) ∧ t.lines = s.lines
          ∧ ∀ c : Berth, (s.bu c).st = .adopted → (s.bu c).answered = false ∨ s.budget.target = none →
              (t.bu c).grant = s.adoptedGrant k.kind c
                ∧ (t.bu c).seq = some (s.budget.seqCounter + countBerths fun d => s.adopted d && decide (d.number ≤ c.number))
                ∧ ((s.bu c).answered = false → (t.bu c).adoptedMark = true ∧ Given t c (.call c.number true)))
      ∧ (PermitApart s → (∀ c : Berth, (s.bu c).st = .adopted → (s.bu c).answered = false ∧ (s.bu c).seq = none) →
      Goes (exec .startWindowClose s) fun t =>
        t.start = none ∧ t.lines = s.lines
          ∧ (∀ c : Berth, (s.bu c).st = .adopted →
              if c ∈ s.converterFill k.kind then
                (t.bu c).st = .adopted ∧ (t.bu c).grant = s.adoptedGrant k.kind c ∧ (t.bu c).draw = s.adoptedDraw k.kind c
                  ∧ (t.bu c).seq = some (s.budget.seqCounter + 1 + (s.feederFill k.kind).idxOf c)
                  ∧ (t.bu c).adoptedMark = true ∧ Given t c (.call c.number true)
              else
                ((t.bu c).st = .returning .lineWait ∨ (t.bu c).st = .returning .gensWait) ∧ (t.bu c).shed = true
                  ∧ (t.bu c).grant = 0 ∧ (t.bu c).draw = 0 ∧ (t.bu c).seq = none ∧ (t.bu c).adoptedMark = false
                  ∧ (t.bu c).timers.takeBack.isSome = true ∧ Given t c .takebackOrder ∧ t.permit c ≠ .none
                  ∧ t.transfer.threshold.get c = some (max 50 ((s.adoptedGrant k.kind c + 19) / 20)))
          ∧ t.budget.working =
              (match s.budget.target with
                | none => s.set.nativeLimit
                | some g => min s.set.nativeLimit (max g.kva t.drawSum))
          ∧ t.budget.pendingMark = s.budget.target.any (fun g => decide (g.kva < t.budget.working))
          ∧ Posted s t (.start k.kind k.defaulted ((Berth.all.filter s.adopted).map (s.fillLine k.kind)) t.budget.working
              t.budget.pendingMark))

/-! ## The Settings Store -/

/-- The end of a write: a passed one becomes the stored record, and for settings the record in force; a failed one, or one whose
limit expires, changes neither, and the next waiting write begins. New settings take effect at once: the working limit follows a
changed native limit and target; modules that leave the installed range become ABSENT, those that enter it PROOF_PENDING, the
history is handed over, count and suspension mark recomputed; a changed detection source acts as the presence change it makes; an
exposed berth newly under selected trip faults with its cause (its own input's where both act, log 79); a berth in TEST or QUEUED
whose recorded class no longer matches faults with CLASS_MISMATCH, every other record left as it is; full′, min′ and the ADMIT entry
follow a changed outlet rating. The berths' clauses are of berths in the states that what they wait for belongs to. The order of the
effects (log 62), the next write's place before them (log 61), the scan's after them (log 66), what counts as a change of the range
(log 65) and that a new class is not put to a report already current (log 75) are the model's choices, and so is the clock at the
expiry (log 3). -/
def Obligations.StoreWriteEnds : Prop :=
  ∀ (s : State) (w : StoreWrite), s.powered = true → s.store.running = some w →
    (Goes (exec (.storeWriteComplete true) s) fun t =>
        match w with
        | .settings r _ =>
          t.store.inForce = r ∧ t.store.storedSettings = r ∧ t.store.settingsSound = true ∧ t.lines = s.lines
            ∧ ((∀ b : Berth, (s.bu b).grant = 0) →
                if r.nativeLimit = s.set.nativeLimit then t.budget.working ≤ s.budget.working
                else
                  t.budget.working =
                    match s.budget.target with
                    | none => r.nativeLimit
                    | some k => min r.nativeLimit k.kva)
            ∧ (∀ m : Module, moduleInstalled s.set m = true → moduleInstalled r m = false →
                t.bank.modules.get m
                    = { st := .absent, strike := 0, restartLimit := none, proofLimit := none, cmd := .stop }
                  ∧ ¬ m ∈ t.bank.proofList)
            ∧ (∀ m : Module, moduleInstalled s.set m = false → moduleInstalled r m = true →
                ((t.bank.modules.get m).st = .proofPending ∨ (t.bank.modules.get m).st.isProofing = true)
                  ∧ (t.bank.modules.get m).strike = 0 ∧ (t.bank.modules.get m).restartLimit = none)
            ∧ ((∃ m : Module, moduleInstalled s.set m ≠ moduleInstalled r m) →
                t.store.running.map StoreWrite.kind = some .moduleHistory
                  ∨ ∃ x ∈ t.store.waiting, x.kind = .moduleHistory)
            ∧ ((∃ m : Module, moduleInstalled s.set m ≠ moduleInstalled r m) ∨ r.suspThreshold ≠ s.set.suspThreshold →
                (∀ m ∈ s.bank.proofList, (s.bank.modules.get m).st.counted = false) →
                t.bank.counted = countedOf t.bank.modules ∧ t.bank.suspended = decide (t.bank.counted ≤ r.suspThreshold))
            ∧ (PermitApart s → TestsApart s → AllPlaced s → ∀ b : Berth,
                let u := s.bu b
                let g := r.berth.get b
                let waits := u.st = .queued ∨ ∃ x, u.st = .test x
                (s.breaker b = .opened → s.closeOutstanding b = false → t.present b ≠ s.present b →
                    if t.present b = true then
                      if u.st = .vacant then (t.bu b).st = .probe .quiet else u.detachSeen = false → (t.bu b).attachSeen = true
                    else
                      match u.st with
                      | .vacant | .blocked => (t.bu b).detachSeen = true ∧ (t.bu b).st = u.st
                      | .probe _ | .released _ | .faulted => (t.bu b).st = .vacant ∧ (t.bu b).lastFault = u.lastFault
                      | _ => (t.bu b).st = .vacant ∧ (t.bu b).lastFault = some .pilotOpen ∧ HoldsNothing t b)
                  ∧ (t.present b = s.present b → u.detachSeen = false →
                    (∀ c : FaultCause, t.selectedTrip b = some c → s.selectedTrip b = none → u.st ≠ .faulted →
                        s.breaker b = .closed ∨ (s.closeOutstanding b = true ∧ s.cls b = .f50) →
                        Faulted t b c ∧ Opening t b ∧ NoClose t b)
                      ∧ (s.breaker b = .opened → s.closeOutstanding b = false → waits → g.vclass ≠ (s.bset b).vclass →
                        (∃ x, u.vclass = some x ∧ x ≠ g.vclass) → Faulted t b .classMismatch)
                      ∧ (t.bu b).vclass = u.vclass
                      ∧ (∀ lo hi : Nat, u.bidMin = some lo → u.bidFull = some hi → g.outletRating ≠ (s.bset b).outletRating →
                        let full := (min hi g.outletRating + 9) / 10 * 10
                        let mn := (min lo full + 9) / 10 * 10
                        (t.bu b).fullEff = some full ∧ (t.bu b).minEff = some mn
                          ∧ ∀ e ∈ t.budget.queue, e.berth = b → e.kind = .admission → e.sought = full ∧ e.minimum = mn)))
        | .history h =>
          t.store.storedHistory = h ∧ t.store.historySound = true ∧ t.store.inForce = s.store.inForce ∧ t.bank.modules = s.bank.modules
            ∧ t.store.running = s.store.waiting.head? ∧ t.store.waiting = s.store.waiting.tail
        | .target k =>
          t.store.storedTarget = some k ∧ t.store.targetSound = true ∧ t.store.inForce = s.store.inForce
            ∧ t.budget.target = s.budget.target ∧ t.store.running = s.store.waiting.head?
            ∧ t.store.waiting = s.store.waiting.tail)
      ∧ (Goes (exec (.storeWriteComplete false) s) fun t =>
          t = { s with
                port := t.port
                budget := { s.budget with scans := t.budget.scans }
                store := { s.store with running := s.store.waiting.head?, waiting := s.store.waiting.tail,
                                        writeLimit := t.store.writeLimit } })
      ∧ ∀ due : Nat, s.store.writeLimit = some due → Goes (exec .writeLimitExpiry s) fun t =>
          t = { s with
                now := max s.now due
                port := t.port
                budget := { s.budget with scans := t.budget.scans }
                store := { s.store with running := s.store.waiting.head?, waiting := s.store.waiting.tail,
                                        writeLimit := t.store.writeLimit } }

/-! ## Quay lines -/

/-- On the host line and on a quay line a discarded frame and a gap change what the framer holds (after a gap it holds nothing); the
end of a quay frame starts the oldest waiting one. Nothing else of the unit changes. What a discarded frame leaves in the framer is
the model's operand (log 7). -/
def Obligations.LinesActAlone : Prop :=
  ∀ s : State, s.powered = true →
    (∀ held : List Byte,
        Goes (exec (.hostFrameDiscarded held) s) fun t => t = { s with port := { s.port with held := t.port.held } })
      ∧ (Goes (exec .hostFrameGap s) fun t => t = { s with port := { s.port with held := [] } })
      ∧ ∀ b : Berth,
        (∀ held : List Byte, Goes (exec (.quayFrameDiscarded b held) s) fun t =>
            t = { s with channels := s.channels.set b { s.ch b with held := (t.ch b).held } })
          ∧ (Goes (exec (.quayFrameGap b) s) fun t => t = { s with channels := s.channels.set b { s.ch b with held := [] } })
          ∧ Goes (exec (.quayFrameSent b) s) fun t =>
              t = { s with
                    channels := s.channels.set b { s.ch b with sending := (s.ch b).queue.head?, queue := (s.ch b).queue.tail } }

/-- The shore beacon gives the channel SHORE_STATE with the berth's state and grant and starts again for 1 s; the call repeat gives
it CALL, with the resume flag in ADOPTED alone, and starts again for 2 s. Nothing else but the clock changes. The clock at the
expiry is the model's (log 3). -/
def Obligations.ChannelTimersRepeat : Prop :=
  ∀ (s : State) (b : Berth) (due : Nat), s.powered = true →
    ((s.ch b).shoreBeacon = some due → Goes (exec (.shoreBeaconTimerExpiry b) s) fun t =>
        OnlyChannel b { s with now := max s.now due } t ∧ Given t b (.shoreState (s.bu b).st (s.bu b).grant)
          ∧ (t.ch b).shoreBeacon = some (max s.now due + 1000) ∧ (t.ch b).link = (s.ch b).link)
      ∧ ((s.ch b).callRepeat = some due → Goes (exec (.callRepeatTimerExpiry b) s) fun t =>
        OnlyChannel b { s with now := max s.now due } t ∧ Given t b (.call b.number ((s.bu b).st == .adopted))
          ∧ (t.ch b).callRepeat = some (max s.now due + 2000) ∧ (t.ch b).link = (s.ch b).link)

/-- Expiry of the loss timer makes the link LOST, and the berth acts by state (Table 1-5).
The clock at the expiry is the model's (log 3). -/
def Obligations.LinkLossByState : Prop :=
  ∀ (s : State) (b : Berth) (due : Nat), s.powered = true → PermitApart s → (s.ch b).loss = some due →
    Goes (exec (.lossTimerExpiry b) s) fun t =>
      t.lines = s.lines
        ∧ match (s.bu b).st with
          | .test _ | .queued | .ready _ | .sync _ =>
            (t.bu b).st = .probe .quiet ∧ HoldsNothing t b ∧ (t.bu b).timers.quiet = some (max s.now due + 2000)
              ∧ (t.ch b).link = .lost
          | .parallel => (s.bu b).detachSeen = false → Faulted t b .linkLostTransfer ∧ Opening t b ∧ (t.ch b).link = .lost
          | .onShore .supplied =>
            (t.bu b).st = .onShore .linkHold ∧ (t.bu b).grant = (s.bu b).grant ∧ (t.bu b).timers.answer = none
              ∧ (t.ch b).link = .lost
          | _ =>
            t = { s with now := max s.now due, channels := s.channels.set b { s.ch b with link := .lost, loss := none } }

/-! ## Ship messages -/

/-- A HELLO in CALLING or EARTHED: the first test that fails is answered REFUSE and faults the berth with the cause of its name;
otherwise identity and classes are recorded, the bids, min′ and full′ as `recordBids` writes them, WELCOME is sent, and the berth
enters TEST, or FAULTED (ESTOP) while E-stop is active. -/
def Obligations.HelloConnects : Prop :=
  ∀ (s : State) (b : Berth) (h : Hello), s.powered = true → h.wellFormed = true → PermitApart s → (s.bu b).detachSeen = false →
    (s.bu b).st = .probe .calling ∨ (s.bu b).st = .released .earthed → (∀ e ∈ s.transfer.line, e.berth ≠ b) →
      Goes (exec (.hello b h) s) fun t =>
        (t.ch b).link = .up
          ∧ if h.vclass ≠ (s.bset b).vclass then Faulted t b .classMismatch ∧ Given t b (.refuse .classMismatch .hello)
            else if h.sclass = .f60 ∧ ((s.bset b).f60Allowed = false ∨ s.set.converterInstalled = false) then
              Faulted t b .supplyUnavailable ∧ Given t b (.refuse .supplyUnavailable .hello)
            else if h.modes = .opened ∧ (s.bset b).openAllowed = false then
              Faulted t b .transferMode ∧ Given t b (.refuse .transferMode .hello)
            else
              (t.bu b).identity = some h.identity ∧ (t.bu b).vclass = some h.vclass ∧ (t.bu b).sclass = some h.sclass
                ∧ (t.bu b).modes = some h.modes ∧ (t.bu b).gens = some h.gens ∧ BidsRecorded s t b h
                ∧ Given t b (.welcome b.number ((t.bu b).minEff.getD 0) ((t.bu b).fullEff.getD 0)
                    (if (s.bset b).openAllowed then .both else .closed) false)
                ∧ (s.lines.estop = false → (t.bu b).st = .test .testWait ∨ (t.bu b).st = .test .testing)
                ∧ (s.lines.estop = true → Faulted t b .estop)

/-- A HELLO in the other states: not acted on in VACANT, QUIET and EARTHING, answered REFUSE in SYNC, PARALLEL, RETURN, FAULTED and
BLOCKED, a re-bid in TEST, QUEUED, READY, ON_SHORE and an answered ADOPTED berth, its bids recorded as `recordBids` writes them,
that is refused where a class differs (from a class not recorded none differs, log 23). The answer to the resume CALL takes an
adopted berth with its generators off to ON_SHORE, one that had been held to SUPPLIED or to RETURN, and leaves one with generators
online answered in ADOPTED while another has not answered; refused, it faults the berth with the cause of its name. A selector with
no position counts as F50 in its check (log 58, DESIGN CHOICE), and it is taken in the start window too (log 24). That any frame of
its ship takes a LINK_HOLD berth to SUPPLIED is the model's choice where its link stands UP (log 48). -/
def Obligations.HelloByState : Prop :=
  ∀ (s : State) (b : Berth) (h : Hello), s.powered = true → h.wellFormed = true → PermitApart s →
    Goes (exec (.hello b h) s) fun t =>
      let welcomed (resume : Bool) : Prop :=
        Given t b (.welcome b.number ((t.bu b).minEff.getD 0) ((t.bu b).fullEff.getD 0)
          (if (s.bset b).openAllowed then .both else .closed) resume)
      let refused (r : RefuseReason) : Prop :=
        Faulted t b (match r with
          | .classMismatch => .classMismatch
          | .supplyUnavailable => .supplyUnavailable
          | _ => .transferMode) ∧ Opening t b ∧ Given t b (.refuse r .hello)
      match (s.bu b).st with
      | .vacant => t = { s with channels := s.channels.set b { s.ch b with held := (t.ch b).held } }
      | .probe .quiet | .released .earthing => OnlyChannel b s t ∧ (t.ch b).queue = (s.ch b).queue
      | .sync _ | .parallel | .returning _ | .faulted =>
        OnlyChannel b s t ∧ Given t b (.refuse .state .hello) ∧ (t.ch b).link = .up
      | .blocked => OnlyChannel b s t ∧ Given t b (.refuse .blocked .hello) ∧ (t.ch b).link = .up
      | .test _ | .queued | .ready _ =>
        if SameClasses (s.bu b) h = true then
          (t.bu b).modes = some h.modes ∧ (t.bu b).gens = some h.gens
            ∧ BidsRecorded s t b h ∧ (t.bu b).identity = (s.bu b).identity
            ∧ welcomed false ∧ ((s.bu b).adoptedMark = false → (t.bu b).grant ≤ (t.bu b).fullEff.getD 0)
        else OnlyChannel b s t ∧ Given t b (.refuse .classChange .hello)
      | .adopted =>
        if (s.bu b).answered = true then
          if SameClasses (s.bu b) h = true then
              (t.bu b).st = .adopted ∧ (t.bu b).answered = true ∧ (t.bu b).modes = some h.modes ∧ (t.bu b).gens = some h.gens
                ∧ BidsRecorded s t b h ∧ welcomed false
          else OnlyChannel b s t ∧ Given t b (.refuse .classChange .hello)
        else if h.resume = false then OnlyChannel b s t ∧ Given t b (.refuse .resumeExpected .hello)
        else
          match s.resumeRefusal b h with
          | some r => (s.bu b).detachSeen = false → refused r
          | none =>
            (t.bu b).adoptedMark = false ∧ (t.bu b).identity = some h.identity ∧ (t.bu b).gens = some h.gens
              ∧ if h.gens = 0 then (t.bu b).st = .onShore .supplied ∧ welcomed true
                else (∃ c : Berth, c ≠ b ∧ s.unanswered c = true) →
                  (t.bu b).st = .adopted ∧ (t.bu b).answered = true ∧ (t.bu b).grant ≤ (t.bu b).fullEff.getD 0 ∧ welcomed true
      | .onShore x =>
        if (s.bu b).adoptedMark = true ∧ h.resume = true then
          match s.resumeRefusal b h with
          | some r => (s.bu b).detachSeen = false → refused r
          | none =>
            (t.bu b).adoptedMark = false ∧ (t.bu b).identity = some h.identity ∧ (t.bu b).gens = some h.gens ∧ welcomed true
              ∧ if h.gens = 0 then (t.bu b).st = .onShore .supplied
                else
                  ((t.bu b).st = .returning .lineWait ∨ (t.bu b).st = .returning .gensWait)
                    ∧ (LinkStands s b → t.transfer.threshold.get b = some (max 50 (((s.bu b).grant + 19) / 20)))
        else
          (t.bu b).st = .onShore .supplied
            ∧ if SameClasses (s.bu b) h = true then
                (t.bu b).modes = some h.modes ∧ (t.bu b).gens = some h.gens
                  ∧ (t.bu b).bidFull = some (max 10 (min h.bidFull.toNat 3000)) ∧ (t.bu b).identity = (s.bu b).identity
                  ∧ (LinkStands s b → BidsRecorded s t b h) ∧ welcomed false
                  ∧ ((s.bu b).adoptedMark = false → (t.bu b).grant ≤ (t.bu b).fullEff.getD 0)
              else Given t b (.refuse .classChange .hello) ∧ (x = .supplied → OnlyChannel b s t)
      | .probe .calling | .released .earthed => True

/-- A BEACON is recorded with its generators online in every state but VACANT, where it is discarded; in PARALLEL with an UNLOADED
held and no generator online it completes the move to ON_SHORE, and it takes a LINK_HOLD berth to SUPPLIED (where its link stands
UP, by the model's choice, log 48). -/
def Obligations.BeaconIsRecorded : Prop :=
  ∀ (s : State) (b : Berth) (r : Beacon), s.powered = true → r.wellFormed = true →
    Goes (exec (.beacon b r) s) fun t =>
      t.lines = s.lines
        ∧ if (s.bu b).st = .vacant then t = { s with channels := s.channels.set b { s.ch b with held := (t.ch b).held } }
          else
            (t.ch b).beacon = some r ∧ (t.bu b).gens = some r.gens ∧ (t.ch b).link = .up
              ∧ (t.ch b).loss = some (s.now + 5000)
              ∧ if (s.bu b).st = .parallel ∧ (s.bu b).heldUnloaded = true ∧ r.gens = 0 then
                  PermitApart s → (t.bu b).st = .onShore .supplied ∧ t.permit b = .none
                else
                  (LinkStands s b →
                    t = { s with channels := s.channels.set b (t.ch b), berths := s.berths.set b { s.bu b with gens := some r.gens } })
                  ∧ ((s.bu b).st = .onShore .linkHold → Regained s t b)

/-- CABLE_LIVE and DARK in AWAIT_SHIP: accepted by the modes offered (DARK also by the berth's setting) they start CABLE_CHECK or
OPEN_CLOSE under the 5 s cable limit; refused they are answered REFUSE (TRANSFER_MODE); elsewhere they are not acted on. That a
report already current at the entry is acted on at once (WAIT_PERMIT on a live cable, the close on a dead one) is read from 6.1 by
inference (log 15). The close so due stands under its supervision, or is turned away: refused with EARTH_SWITCH or PILOT_OPEN (R20;
the first where both hold, the model's choice, log 49), or withdrawn with the cause of a selected trip or BACKUP_TRIP (R169, R175;
the first where both hold, by inference, log 12), the berth FAULTED. In LINK_HOLD either message regains the link (log 48). -/
def Obligations.TransferMessagesInAwaitShip : Prop :=
  ∀ (s : State) (b : Berth), s.powered = true →
    (Goes (exec (.cableLive b) s) fun t =>
        if (s.bu b).st = .ready .awaitShip then
          if (s.bu b).modes = some .closed ∨ (s.bu b).modes = some .both then
            (t.bu b).transferMode = some .closed ∧ (t.bu b).grant = (s.bu b).grant
              ∧ (s.cableLive b = false →
                  (t.bu b).st = .ready .cableCheck ∧ (t.bu b).timers.cable = some (s.now + 5000))
              ∧ (s.cableLive b = true → (t.bu b).st = .ready .waitPermit ∨ (t.bu b).st = .sync .checking)
          else OnlyChannel b s t ∧ Given t b (.refuse .transferMode .cableLive)
        else
          (LinkStands s b → OnlyChannel b s t ∧ (t.ch b).queue = (s.ch b).queue)
            ∧ ((s.bu b).st = .onShore .linkHold → Regained s t b))
      ∧ Goes (exec (.dark b) s) fun t =>
        if (s.bu b).st = .ready .awaitShip then
          if ((s.bu b).modes = some .opened ∨ (s.bu b).modes = some .both) ∧ (s.bset b).openAllowed = true then
            (s.cableDead b = false →
                (t.bu b).st = .ready .openClose ∧ (t.bu b).timers.cable = some (s.now + 5000)
                  ∧ (t.bu b).timers.ready = none ∧ (t.bu b).transferMode = some .opened)
              ∧ (s.cableDead b = true →
                  match s.closeRefusal b with
                  | none =>
                    (t.bu b).st = .ready .openClose ∧ (t.bu b).breakerCmd = some .close ∧ (t.pb b).closeSup = some (s.now + 500)
                  | some c => PermitApart s → (s.bu b).detachSeen = false → CloseTurnedAway t b c)
          else OnlyChannel b s t ∧ Given t b (.refuse .transferMode .dark)
        else
          (LinkStands s b → OnlyChannel b s t ∧ (t.ch b).queue = (s.ch b).queue)
            ∧ ((s.bu b).st = .onShore .linkHold → Regained s t b)

/-- UNLOADED in PARALLEL leads to ON_SHORE without the permit, or is held while generators are online; TAKEBACK in SUPPLIED leads to
RETURN with its release threshold; GENS_ON in GENS_WAIT leads to RETURN_PARALLEL under its timer, or straight on to SEPARATING where
the power last metered lies below the threshold already, which is read from 6.1 by inference (log 15). Elsewhere none is acted on. A
LINK_HOLD berth regains its link by each of them first (log 48), so that TAKEBACK leads it to RETURN too. -/
def Obligations.TransferProgressMessages : Prop :=
  ∀ (s : State) (b : Berth), s.powered = true →
    (Goes (exec (.unloaded b) s) fun t =>
        if (s.bu b).st = .parallel then
          if (s.bu b).gens = some 0 then
            PermitApart s → (t.bu b).st = .onShore .supplied ∧ t.permit b = .none ∧ (t.bu b).grant = (s.bu b).grant
          else t = { s with channels := s.channels.set b (t.ch b), berths := s.berths.set b { s.bu b with heldUnloaded := true } }
        else if (s.bu b).st = .onShore .linkHold then Regained s t b
        else OnlyChannel b s t ∧ (t.ch b).queue = (s.ch b).queue)
      ∧ (Goes (exec (.takeback b) s) fun t =>
        if (s.bu b).st = .onShore .supplied then
          ((t.bu b).st = .returning .lineWait ∨ (t.bu b).st = .returning .gensWait)
            ∧ t.transfer.threshold.get b = some (max 50 (((s.bu b).grant + 19) / 20)) ∧ (t.bu b).timers.answer = none
            ∧ (t.bu b).grant = (s.bu b).grant ∧ t.queueEntry b = none
        else if (s.bu b).st = .onShore .linkHold then
          ((t.bu b).st = .returning .lineWait ∨ (t.bu b).st = .returning .gensWait)
            ∧ (t.transfer.threshold.get b).isSome = true ∧ t.queueEntry b = none ∧ (t.ch b).link = .up
        else OnlyChannel b s t ∧ (t.ch b).queue = (s.ch b).queue)
      ∧ Goes (exec (.gensOn b) s) fun t =>
        if (s.bu b).st = .returning .gensWait then
          t.transfer.gensOn = none
            ∧ (s.belowThreshold b = false →
                (t.bu b).st = .returning .returnParallel
                  ∧ t.transfer.returnParallel = some (s.now + s.set.returnParallelLimit * 1000))
            ∧ (s.belowThreshold b = true → (t.bu b).st = .returning .separating ∧ Opening t b)
        else if (s.bu b).st = .onShore .linkHold then Regained s t b
        else OnlyChannel b s t ∧ (t.ch b).queue = (s.ch b).queue

/-- BYE in PROBE, TEST, QUEUED, READY and SYNC performs the stand-down and leads to RELEASED, with the breaker commanded open unless
it is reported open, a close withdrawn, the earthing procedure begun where the switch is not reported closed, and SYNC_ABANDONED
sent from SYNC with sync attempts kept; in every other state it is not acted on, but that in LINK_HOLD it regains the link (log 48).
That a berth whose switch is reported closed goes to EARTHED at once is read from the rules by inference (log 13). -/
def Obligations.ByeByState : Prop :=
  ∀ (s : State) (b : Berth), s.powered = true →
    Goes (exec (.bye b) s) fun t =>
      match (s.bu b).st with
      | .probe _ | .test _ | .queued | .ready _ | .sync _ =>
        HoldsNothing t b ∧ t.lines = s.lines ∧ (TestsApart s → t.servedBy b = none ∧ ∀ e ∈ t.tests.queue, e.berth ≠ b)
          ∧ (t.bu b).releasePending = false ∧ (t.bu b).shed = false ∧ (t.bu b).transferMode = none
          ∧ (t.bu b).syncAttempts = (s.bu b).syncAttempts ∧ (t.bu b).breakerCmd ≠ some .close ∧ Opening t b
          ∧ (PermitApart s → (s.bu b).detachSeen = false →
              (t.bu b).st = (if s.switch b = some .closed then .released .earthed else .released .earthing)
                ∧ ((t.bu b).earthing = .idle ↔ s.switch b = some .closed))
          ∧ (PermitApart s → t.permit b = .none)
          ∧ ((s.bu b).detachSeen = false → (∃ x, (s.bu b).st = .sync x) → Given t b .syncAbandoned)
      | .onShore .linkHold => Regained s t b
      | _ => OnlyChannel b s t ∧ (t.ch b).queue = (s.ch b).queue

/-! ## Plug, pilot loop, selector and earthing switch -/

/-- A plug proximity change is recorded; where it is no presence change nothing else happens; presence in VACANT leads to PROBE, its
loss in PROBE to VACANT, in BLOCKED it sets the latch alone, and in a connected state it faults the berth with PILOT_OPEN and leads
on to VACANT. -/
def Obligations.PlugProximityActsByPresence : Prop :=
  ∀ (s : State) (b : Berth) (a : Bool), s.powered = true → PermitApart s →
    Goes (exec (.plugProximityChange b a) s) fun t =>
      t.lines = { s.lines with berth := s.lines.berth.set b { s.ln b with proximity := a } }
        ∧ if t.present b = s.present b then OnlyWires s t
          else if t.present b = true then
            if (s.bu b).st = .vacant then
              (t.bu b).st = .probe .quiet ∧ (t.bu b).timers.quiet = some (s.now + 2000) ∧ (t.bu b).attachSeen = false
                ∧ (t.bu b).detachSeen = false
            else t = { s with lines := t.lines, berths := s.berths.set b { s.bu b with attachSeen := true } }
          else
            match (s.bu b).st with
            | .vacant | .blocked => t = { s with lines := t.lines, berths := s.berths.set b { s.bu b with detachSeen := true } }
            | .probe _ | .released _ | .faulted => (t.bu b).st = .vacant ∧ (t.bu b).lastFault = (s.bu b).lastFault
            | _ => (t.bu b).st = .vacant ∧ (t.bu b).lastFault = some .pilotOpen ∧ HoldsNothing t b

/-- A pilot loop break is recorded and the hardware's opening supervised; a connected berth faults with PILOT_OPEN, a close that was
outstanding withdrawn, a berth in PROBE goes to VACANT and on to PROBE where presence is still detected, and where the detection
source takes no part in the loop VACANT, RELEASED, FAULTED and BLOCKED keep their state. The loop found continuous again is
recorded, and acts where it is a presence change. -/
def Obligations.PilotLoopBreaks : Prop :=
  ∀ (s : State) (b : Berth), s.powered = true → PermitApart s →
    (Goes (exec (.pilotLoopOpen b) s) fun t =>
        t.lines = { s.lines with berth := s.lines.berth.set b { s.ln b with pilotContinuous := false } }
          ∧ if (s.ln b).pilotContinuous = false then OnlyWires s t
            else
              (s.breaker b ≠ .opened → (t.pb b).openSup.isSome = true)
                ∧ ((s.bu b).st.connected = true → (t.bu b).lastFault = some .pilotOpen ∧ HoldsNothing t b ∧ NoClose t b
                    ∧ (t.present b = s.present b → (s.bu b).detachSeen = false → (t.bu b).st = .faulted))
                ∧ ((∃ x, (s.bu b).st = .probe x) → (t.bu b).st = if t.present b then .probe .quiet else .vacant)
                ∧ (t.present b = s.present b →
                    (s.bu b).st = .vacant ∨ (s.bu b).st = .faulted ∨ (s.bu b).st = .blocked ∨ (∃ x, (s.bu b).st = .released x) →
                    t.bu b = s.bu b))
      ∧ Goes (exec (.pilotLoopContinuous b) s) fun t =>
          t.lines = { s.lines with berth := s.lines.berth.set b { s.ln b with pilotContinuous := true } }
            ∧ (t.present b = s.present b → OnlyWires s t)
            ∧ (t.present b ≠ s.present b → (s.bu b).st = .vacant → (t.bu b).st = .probe .quiet)

/-- The quiet timer's expiry leads to CALLING, with CALL sent and the contact limit begun, once the switch is reported closed and
E-stop inactive; the contact limit faults a CALLING berth with NO_CONTACT and holds an ADOPTED one in LINK_HOLD; the retest delay
asks for a test again. Where the contact limit was the last one that the resume round waited for, the round closes: each answered
berth with its generators off enters ON_SHORE, in SUPPLIED, or in LINK_HOLD where its link is then LOST (the model takes R25 over
the SUPPLIED of R189 step 1, log 81), the first of the others in number order takes a free permit and enters PARALLEL, and each of
the rest enters RETURN with a marked return-class entry. The clock at the expiry is the model's (log 3). -/
def Obligations.ProbeAndTestTimers : Prop :=
  ∀ (s : State) (b : Berth) (due : Nat), s.powered = true → PermitApart s →
    ((s.bu b).st = .probe .quiet → (s.bu b).timers.quiet = some due → Goes (exec (.quietTimerExpiry b) s) fun t =>
        t.lines = s.lines ∧ (t.bu b).timers.quiet = none
          ∧ if s.switch b = some .closed ∧ s.lines.estop = false then
              (t.bu b).st = .probe .calling ∧ Given t b (.call b.number false)
                ∧ (t.bu b).timers.contact = some (max s.now due + s.set.contactLimit * 1000)
                ∧ (t.ch b).callRepeat = some (max s.now due + 2000)
            else (t.bu b).st = .probe .quiet ∧ (t.bu b).quietDone = true ∧ t.ch b = s.ch b)
      ∧ ((s.bu b).timers.contact = some due → Goes (exec (.contactLimitExpiry b) s) fun t =>
        ((s.bu b).st = .probe .calling → (s.bu b).detachSeen = false → Faulted t b .noContact)
          ∧ ((s.bu b).st = .adopted →
              (t.bu b).st = .onShore .linkHold ∧ (t.bu b).grant = (s.bu b).grant
                ∧ (t.bu b).adoptedMark = (s.bu b).adoptedMark ∧ (t.ch b).callRepeat = none)
          ∧ (s.unanswered b = true → s.transfer.resumeRound = true → (∀ c : Berth, c ≠ b → s.unanswered c = false) →
              t.transfer.resumeRound = false
                ∧ ∀ c : Berth, c ≠ b → (s.bu c).st = .adopted →
                    if s.answeredLoaded c = false then
                      (t.bu c).st = if (s.ch c).link = .lost then .onShore .linkHold else .onShore .supplied
                    else if s.transfer.holder = none ∧ s.loadedBefore c = false then
                      (t.bu c).st = .parallel ∧ t.transfer.holder = some c ∧ Given t c .closed
                        ∧ t.transfer.parallel = some (max s.now due + s.set.parallelLimit * 1000)
                    else
                      (t.bu c).st = .returning .lineWait ∧ (s.bu c).grant = (t.bu c).grant
                        ∧ { berth := c, cls := .returning, head := true } ∈ t.transfer.line
                        ∧ t.transfer.threshold.get c = some (max 50 (((s.bu c).grant + 19) / 20))))
      ∧ ((s.bu b).st = .test .retestDelay → (s.bu b).timers.retest = some due → Goes (exec (.retestDelayExpiry b) s) fun t =>
        ((t.bu b).st = .test .testWait ∨ (t.bu b).st = .test .testing) ∧ (t.bu b).timers.retest = none
          ∧ (t.bu b).retestCount = (s.bu b).retestCount ∧ t.lines = s.lines)

/-- Selector feedback at the berth's class ends the selector step: its position is confirmed and the earthing switch commanded open
under its 2 s limit, which a switch reported open already meets at once (log 14). Of a watched selector on an open breaker a
feedback other than the confirmed position starts the 3 s disagreement timer, in every state that watches it; feedback back at the
confirmed position cancels the timer in every state. With the breaker CLOSED or a close outstanding a watched selector that leaves
its confirmed position is taken at once: the close withdrawn, the breaker commanded open under its supervision and the berth FAULTED
(SELECTOR). The selector limit faults the berth with SELECTOR. -/
def Obligations.SelectorStepAndWatch : Prop :=
  ∀ (s : State) (b : Berth), s.powered = true →
    (∀ (x y : Bool) (c : SClass), (s.bu b).st = .ready .preparing → (s.bu b).sclass = some c →
        (s.bu b).timers.selector.isSome = true → x ≠ y → (c = .f50 ↔ x = true) → s.switch b ≠ some .opened →
        Goes (exec (.selectorFeedback b x y) s) fun t =>
          (t.pb b).selectorConfirmed = some c ∧ (t.bu b).timers.selector = none ∧ (t.bu b).st = .ready .preparing
            ∧ (t.bu b).switchCmd = some .opened ∧ (t.bu b).timers.earthSwitch = some (s.now + 2000)
            ∧ (t.pb b).switchConfirmed = none)
      ∧ (∀ (x y : Bool) (c : SClass), (s.bu b).st = .ready .preparing → (s.bu b).sclass = some c →
        (s.bu b).timers.selector.isSome = true → x ≠ y → (c = .f50 ↔ x = true) → s.switch b = some .opened →
        Goes (exec (.selectorFeedback b x y) s) fun t =>
          (t.pb b).selectorConfirmed = some c ∧ (t.pb b).switchConfirmed = some .opened ∧ (t.bu b).switchCmd = none
            ∧ (c = .f50 → (t.bu b).st = .ready .awaitShip)
            ∧ (c = .f60 → (t.bu b).st = .ready .awaitShip ∨ (t.bu b).st = .ready .waitBank))
      ∧ (∀ (x y : Bool) (c : SClass), (s.bu b).selectorWatched = true → (s.pb b).selectorConfirmed = some c →
        (s.pb b).selectorDisagree = none → s.breaker b = .opened → s.closeOutstanding b = false →
        Goes (exec (.selectorFeedback b x y) s) fun t =>
          ((s.bu b).st ≠ .ready .waitBank → (t.bu b).st = (s.bu b).st) ∧ (t.pb b).selectorConfirmed = some c
            ∧ (t.pb b).selectorDisagree =
                if t.selector b = some c then none else some (s.now + 3000))
      ∧ (∀ (x y : Bool) (c : SClass), (s.bu b).st ≠ .ready .preparing → (s.pb b).selectorConfirmed = some c →
        x ≠ y → (c = .f50 ↔ x = true) →
        Goes (exec (.selectorFeedback b x y) s) fun t =>
          (t.pb b).selectorDisagree = none ∧ ((s.bu b).st ≠ .ready .waitBank → (t.bu b).st = (s.bu b).st))
      ∧ (∀ (x y : Bool) (c : SClass), (s.bu b).selectorWatched = true → (s.pb b).selectorConfirmed = some c →
        ¬ (x ≠ y ∧ (c = .f50 ↔ x = true)) → s.breaker b = .closed ∨ s.closeOutstanding b = true → PermitApart s →
        (s.bu b).detachSeen = false → Goes (exec (.selectorFeedback b x y) s) fun t =>
          Faulted t b .selector ∧ (t.bu b).breakerCmd = some .opening ∧ (t.pb b).openSup.isSome = true ∧ (t.pb b).closeSup = none)
      ∧ ∀ due : Nat, (s.bu b).timers.selector = some due → PermitApart s → (s.bu b).st ≠ .faulted →
        (s.bu b).detachSeen = false →
        Goes (exec (.selectorLimitExpiry b) s) fun t => Faulted t b .selector ∧ t.lines = s.lines

/-- Earthing switch feedback at a berth under no test, its breaker reported open: closed ends the earthing procedure of a RELEASED
berth with EARTHED, and QUIET with CALLING where its timer has expired and E-stop is inactive; open ends PREPARING in AWAIT_SHIP or
WAIT_BANK; in every other state a feedback other than the confirmed position starts the 2 s disagreement timer, and the confirmed
one cancels it, which it does at every berth. With the breaker closed or a close outstanding a switch not reported open is taken at
once: the breaker is commanded open and EARTH_SWITCH recorded, the berth FAULTED unless it is BLOCKED. That a command falls at its
feedback is the model's form of it (log 31), and the order of these acts its reading (log 32). -/
def Obligations.EarthSwitchFeedbackActs : Prop :=
  ∀ (s : State) (b : Berth), s.powered = true →
    (s.servedBy b = none → s.breaker b = .opened → s.closeOutstanding b = false →
      ((s.bu b).st = .released .earthing → (s.bu b).earthing ≠ .idle → Goes (exec (.earthSwitchFeedback b true false) s) fun t =>
          (t.bu b).st = .released .earthed ∧ (t.bu b).earthing = .idle ∧ (t.bu b).timers.discharge = none
            ∧ ((s.bu b).switchCmd = some .closed → (t.pb b).switchConfirmed = some .closed ∧ (t.bu b).switchCmd = none))
        ∧ ((s.bu b).st = .ready .preparing → (s.bu b).timers.earthSwitch.isSome = true → (s.bu b).earthing = .idle →
          Goes (exec (.earthSwitchFeedback b false true) s) fun t =>
            if s.cls b = .f60 ∧ s.bank.st ≠ .running then (t.bu b).st = .ready .waitBank
            else
              (t.bu b).st = .ready .awaitShip ∧ (t.bu b).timers.earthSwitch = none
                ∧ Given t b (.grant (s.bu b).grant (s.bu b).minEff (s.bu b).fullEff (s.topup b)))
        ∧ ((s.bu b).st = .probe .quiet → Goes (exec (.earthSwitchFeedback b true false) s) fun t =>
            (t.bu b).earthing = .idle
              ∧ if (s.bu b).quietDone = true ∧ s.lines.estop = false then
                  (t.bu b).st = .probe .calling ∧ Given t b (.call b.number false)
                    ∧ (t.bu b).timers.contact = some (s.now + s.set.contactLimit * 1000)
                else (t.bu b).st = .probe .quiet)
        ∧ ∀ (x y : Bool) (p : SwitchPos), (s.bu b).st ≠ .ready .preparing → (s.bu b).st ≠ .probe .quiet →
          (s.bu b).earthing = .idle → (s.bu b).switchCmd = none →
          (s.pb b).switchConfirmed = some p → Goes (exec (.earthSwitchFeedback b x y) s) fun t =>
            t = { s with lines := t.lines, protect := t.protect }
              ∧ (t.pb b).switchDisagree =
                  if t.switch b = some p then none
                  else if (s.pb b).switchDisagree.isSome then (s.pb b).switchDisagree else some (s.now + 2000))
      ∧ (∀ (x y : Bool) (p : SwitchPos), (s.pb b).switchConfirmed = some p →
        Goes (exec (.earthSwitchFeedback b x y) s) fun t => t.switch b = some p → (t.pb b).switchDisagree = none)
      ∧ ∀ x y : Bool, s.breaker b = .closed ∨ s.closeOutstanding b = true → ¬ (x = false ∧ y = true) → s.servedBy b = none →
        (s.bu b).detachSeen = false → Goes (exec (.earthSwitchFeedback b x y) s) fun t =>
          (t.bu b).lastFault = some .earthSwitch ∧ (t.bu b).breakerCmd ≠ some .close ∧ Opening t b
            ∧ ((s.bu b).st = .blocked → (t.bu b).st = .blocked)
            ∧ ((s.bu b).st = .faulted → (t.bu b).st = .faulted)
            ∧ (PermitApart s → (s.bu b).st ≠ .blocked → (s.bu b).st ≠ .faulted → Faulted t b .earthSwitch)

/-- The discharge interval's expiry with the breaker reported open on a dead cable has the switch commanded closed under its 2 s
limit, and otherwise returns the procedure to its wait, which is read from the rules by inference (log 13); the switch limit ends
the procedure with EARTH_SWITCH, recorded alone in BLOCKED. The clock at the expiry is the model's (log 3). -/
def Obligations.EarthingProcedureTimers : Prop :=
  ∀ (s : State) (b : Berth) (due : Nat), s.powered = true →
    ((s.bu b).timers.discharge = some due → Goes (exec (.dischargeIntervalExpiry b) s) fun t =>
        (t.bu b).timers.discharge = none ∧ (t.bu b).st = (s.bu b).st ∧ t.lines = s.lines
          ∧ if s.breaker b = .opened ∧ s.cableDead b = true then
              (t.bu b).earthing = .closing ∧ (t.bu b).switchCmd = some .closed
                ∧ (t.bu b).timers.earthSwitch = some (max s.now due + 2000) ∧ (t.pb b).switchConfirmed = none
            else (t.bu b).earthing = .waiting ∧ (t.bu b).switchCmd = (s.bu b).switchCmd)
      ∧ ((s.bu b).timers.earthSwitch = some due → Goes (exec (.earthingSwitchLimitExpiry b) s) fun t =>
        (t.bu b).lastFault = some .earthSwitch ∧ t.lines = s.lines
          ∧ ((s.bu b).st = .blocked → (t.bu b).st = .blocked)
          ∧ (PermitApart s → (s.bu b).st ≠ .blocked → (s.bu b).st ≠ .faulted → (s.bu b).detachSeen = false → Faulted t b .earthSwitch))

/-! ## Limits of READY, ON_SHORE and RETURN -/

/-- The cable limit faults the berth with CABLE_STATE, the take-back limit with SHED_FORCED and its breaker commanded open; the
answer limit posts RELEASE_PENDING and changes nothing else; the ready limit returns the grant, with GRANT of a grant of 0 to its
ship where GRANT had been sent, and leads to QUEUED with a fresh ADMIT entry at the tail. The clock at the expiry is the model's
(log 3). -/
def Obligations.BerthLimitsExpire : Prop :=
  ∀ (s : State) (b : Berth) (due : Nat), s.powered = true → PermitApart s →
    ((s.bu b).timers.cable = some due → (s.bu b).st ≠ .faulted → (s.bu b).detachSeen = false →
        Goes (exec (.cableLimitExpiry b) s) fun t => Faulted t b .cableState ∧ t.lines = s.lines)
      ∧ ((s.bu b).timers.takeBack = some due → (s.bu b).st ≠ .faulted → (s.bu b).detachSeen = false →
        Goes (exec (.takeBackLimitExpiry b) s) fun t => Faulted t b .shedForced ∧ Opening t b ∧ t.lines = s.lines)
      ∧ ((s.bu b).timers.answer = some due → Goes (exec (.answerLimitExpiry b) s) fun t =>
        t = { s with
              now := max s.now due
              port := (s.port.enqueue (.releasePending b)).kick
              berths := s.berths.set b { s.bu b with timers := { (s.bu b).timers with answer := none } } })
      ∧ ((s.bu b).timers.ready = some due → Goes (exec (.readyLimitExpiry b) s) fun t =>
        (t.bu b).st = .queued ∧ (t.bu b).grant = 0 ∧ (t.bu b).draw = 0 ∧ (t.bu b).seq = none ∧ (t.bu b).transferMode = none
          ∧ (t.bu b).syncAttempts = (s.bu b).syncAttempts ∧ t.lines = s.lines
          ∧ ((s.bu b).grantSent = true → Given t b (.grant 0 (s.bu b).minEff (s.bu b).fullEff false))
          ∧ ∃ e ∈ t.budget.queue, e.berth = b ∧ e.kind = .admission ∧ e.passOver = 0
              ∧ e.sought = (t.bu b).fullEff.getD 0 ∧ e.minimum = (t.bu b).minEff.getD 0
              ∧ ((s.bu b).st ≠ .adopted → t.budget.queue.getLast? = some e))

/-! ## Meter reports and transfer -/

/-- A valid report becomes the current one with the freshness timer restarted and last measured kVA written, in every state, and the
berth's conditions are put to it: a supply shown dead faults a berth marked backup-pending; a live cable ends CABLE_CHECK and asks
for the permit, a dead one has the close given in OPEN_CLOSE; shore power below the release threshold separates; the earthing
procedure's discharge interval starts on a dead cable and is cancelled by another; the holder's MATCH is sent in SYNC, its dwell
counted in CHECKING, where N in window have the close given; reverse power is watched in PARALLEL, overdraw in ON_SHORE with its
warning. A close so due stands under its supervision, or is turned away, the berth FAULTED: refused with EARTH_SWITCH or PILOT_OPEN
(R20; the first where both hold, log 49), or withdrawn with the cause of a selected trip or BACKUP_TRIP (R169, R175; the first where
both hold, log 12). An invalid report changes no quantity of the record. The freshness timer's expiry leaves no current report and
keeps last measured kVA. The order in which one report meets these conditions is the model's (log 33), and so is Vn by the class
setting (log 10); that N is met by a count above it is read by inference (log 41). -/
def Obligations.MeterReportBecomesCurrent : Prop :=
  ∀ (s : State) (b : Berth) (r : MeterReport), s.powered = true →
    (Goes (exec (.meterReport b r) s) fun t =>
        let u := s.bu b
        let dead := 10 * r.cableV < s.vn b
        let closeDue (st : BState) : Prop :=
          match s.closeRefusal b with
          | none => (t.bu b).breakerCmd = some .close ∧ (t.pb b).closeSup = some (s.now + 500) ∧ (t.bu b).st = st
          | some c => PermitApart s → u.detachSeen = false → CloseTurnedAway t b c
        t.lines = s.lines
          ∧ if r.validMark = true ∧ frequencyOk (sideFrequency (s.vn b) r.supplyV r.supplyF) = true
                ∧ frequencyOk (sideFrequency (s.vn b) r.cableV r.cableF) = true then
              (t.bu b).report = some (takenReport (s.vn b) r) ∧ (t.bu b).lastKva = r.power
                ∧ (t.bu b).reportAt = some s.now ∧ (t.bu b).timers.freshness = some (s.now + 500)
                ∧ (PermitApart s → (s.pb b).backupPending.isSome = true → 10 * r.supplyV < s.vn b → u.st ≠ .faulted →
                    u.detachSeen = false → Faulted t b .backupTrip)
                ∧ ((s.pb b).backupPending = none →
                    (u.st = .ready .cableCheck →
                        if 9 * s.vn b ≤ 10 * r.cableV then
                          ((t.bu b).st = .ready .waitPermit ∨ (t.bu b).st = .sync .checking) ∧ (t.bu b).timers.cable = none
                            ∧ t.permit b ≠ .none
                        else (t.bu b).st = .ready .cableCheck ∧ (t.bu b).timers.cable = u.timers.cable)
                      ∧ (u.st = .ready .openClose → u.timers.cable.isSome = true →
                        if dead then closeDue (.ready .openClose) ∧ (t.bu b).timers.cable = none
                        else (t.bu b).st = .ready .openClose ∧ (t.bu b).timers.cable = u.timers.cable
                          ∧ (t.bu b).breakerCmd = u.breakerCmd)
                      ∧ (∀ n : Nat, u.st = .returning .returnParallel → s.transfer.threshold.get b = some n →
                        if r.power < n then (t.bu b).st = .returning .separating ∧ Opening t b ∧ t.transfer.returnParallel = none
                        else (t.bu b).st = .returning .returnParallel ∧ t.transfer.returnParallel = s.transfer.returnParallel)
                      ∧ (u.st = .queued ∨ u.st = .released .earthing ∨ u.st = .faulted ∨ u.st = .vacant ∨ u.st = .blocked
                          ∨ u.st = .probe .quiet ∨ u.st = .probe .calling →
                        (u.earthing = .waiting → s.breaker b = .opened → dead →
                            (t.bu b).earthing = .discharging ∧ (t.bu b).timers.discharge = some (s.now + 5000))
                          ∧ (u.earthing = .discharging → ¬ dead →
                            (t.bu b).earthing = .waiting ∧ (t.bu b).timers.discharge = none))
                      ∧ (s.transfer.holder = some b →
                        match (takenReport (s.vn b) r).supplyF, (takenReport (s.vn b) r).cableF with
                        | some fs, some fc =>
                          let slip : Int := fc - fs
                          let turned : Int := r.phase + divHalfAway (36 * slip * s.set.closingTime) 1000
                          let p : Int :=
                            if turned < -18000 then turned + 36000 else if 17999 < turned then turned - 36000 else turned
                          let dv : Int := (((r.cableV : Int) - r.supplyV) * 1000).tdiv (s.vn b)
                          let fits := decide (slip.natAbs ≤ s.set.slipLimit ∧ dv.natAbs ≤ s.set.voltageLimit
                            ∧ r.phase.natAbs ≤ 9000 ∧ p.natAbs ≤ s.set.angleLimit)
                          let m : MatchData := { slip := slip, phase := r.phase, dv := dv, inWindow := fits }
                          let matched := t.transfer.lastMatch = some m
                            ∧ Given t b (.match_ (max (-32768) (min slip 32767)) r.phase (max (-32768) (min dv 32767)) fits)
                          (u.st = .sync .checking → -32768 ≤ r.phase → r.phase ≤ 32767 →
                              if fits = true ∧ s.set.dwellN ≤ s.transfer.dwell.get b + 1 then
                                closeDue (.sync .closing)
                                  ∧ (s.closeRefusal b = none → matched ∧ t.transfer.dwell.get b = 0 ∧ t.transfer.sync = none)
                              else
                                matched
                                  ∧ (t.bu b).st = .sync .checking ∧ t.transfer.sync = s.transfer.sync
                                      ∧ t.transfer.dwell.get b = if fits = true then s.transfer.dwell.get b + 1 else 0)
                            ∧ (u.st = .sync .closing → -32768 ≤ r.phase → r.phase ≤ 32767 →
                              matched ∧ (t.bu b).st = .sync .closing ∧ t.transfer.dwell.get b = s.transfer.dwell.get b)
                        | _, _ => u.st = .sync .checking → t.transfer.dwell.get b = 0 ∧ (t.bu b).st = .sync .checking)
                      ∧ (s.transfer.holder = some b → u.st = .parallel →
                        t.transfer.reverse =
                          if 100 * r.power < -((s.set.reverseLimit * u.grant : Nat) : Int) then
                            (if s.transfer.reverse.isSome then s.transfer.reverse else some (s.now + s.set.reverseTime * 1000))
                          else none)
                      ∧ (u.st.isOnShore = true →
                        if ((u.grant * s.set.overdrawMargin : Nat) : Int) < 100 * r.power then
                          (∀ w, (s.pb b).overdraw = some w → (t.pb b).overdraw = some w)
                            ∧ ((s.pb b).overdraw = none →
                                (t.pb b).overdraw =
                                    some { due := s.now + s.set.overdrawLimit * 1000, grant := u.grant, kva := r.power }
                                  ∧ Given t b (.warnOverdraw u.grant r.power))
                        else (t.pb b).overdraw = none))
            else
              (∀ c : Berth, t.bu c = s.bu c) ∧ t.transfer.holder = s.transfer.holder
                ∧ (s.transfer.holder ≠ some b → t = s)
                ∧ (s.transfer.holder = some b → (s.bu b).st = .sync .checking → t.transfer.dwell.get b = 0))
      ∧ ∀ due : Nat, (s.bu b).timers.freshness = some due → Goes (exec (.freshnessTimerExpiry b) s) fun t =>
          (t.bu b).report = none ∧ (t.bu b).lastKva = (s.bu b).lastKva ∧ (t.bu b).st = (s.bu b).st
            ∧ (∀ c : Berth, c ≠ b → t.bu c = s.bu c)
            ∧ (s.transfer.holder = some b → (s.bu b).st = .sync .checking → t.transfer.dwell.get b = 0)

/-- The Transfer Unit's timers at the permit holder: the sync timer abandons and counts the attempt, with the third faulting it; the
parallel and reverse-power timers fault it, with FAULT posted and OPENED with the cause sent where its breaker had been closed,
which a supplied state shows too (log 18); the gens-on limit sends it back to the line; the return-parallel timer has its breaker
commanded open without a fault. The clock at the expiry is the model's (log 3). -/
def Obligations.TransferTimersAtHolder : Prop :=
  ∀ (s : State) (b : Berth) (due : Nat), s.powered = true → PermitApart s → s.transfer.holder = some b →
    (s.bu b).st ≠ .faulted → (s.bu b).detachSeen = false →
    (s.transfer.sync = some due → Goes (exec .syncTimerExpiry s) fun t =>
        (t.bu b).syncAttempts = (s.bu b).syncAttempts + 1
          ∧ if 2 ≤ (s.bu b).syncAttempts then Faulted t b .syncFail
            else
              (t.bu b).st = .ready .awaitShip ∧ (t.bu b).grant = (s.bu b).grant ∧ Given t b .syncAbandoned
                ∧ (t.bu b).timers.ready = some (max s.now due + s.set.readyLimit * 1000)
                ∧ t.permit b = .none)
      ∧ (s.transfer.parallel = some due → Goes (exec .parallelTimerExpiry s) fun t =>
        Faulted t b .parallelOverrun ∧ Opening t b ∧ FaultReported s t b .parallelOverrun)
      ∧ (s.transfer.reverse = some due → Goes (exec .reversePowerTimerExpiry s) fun t =>
        Faulted t b .reversePower ∧ Opening t b ∧ FaultReported s t b .reversePower)
      ∧ (s.transfer.gensOn = some due → Goes (exec .gensOnLimitExpiry s) fun t =>
        ((t.bu b).st = .returning .lineWait ∨ (t.bu b).st = .returning .gensWait) ∧ Given t b .syncAbandoned
          ∧ (t.bu b).grant = (s.bu b).grant ∧ t.permit b ≠ .none)
      ∧ (s.transfer.returnParallel = some due → Goes (exec .returnParallelTimerExpiry s) fun t =>
        (t.bu b).st = .returning .forcedOpen ∧ Opening t b ∧ (t.bu b).lastFault = (s.bu b).lastFault
          ∧ t.transfer.holder = some b ∧ t.transfer.returnParallel = none)

/-! ## Breakers -/

/-- Breaker feedback: a commanded close in SYNC leads to PARALLEL under the parallel timer, and in OPEN_CLOSE to ON_SHORE, with
CLOSED sent; open feedback completes a return in RELEASED, lets a holder entry that CLEAR or REINIT has cleared leave its list
(R176) and clears the backup-pending mark; a breaker that leaves CLOSED at a supplied berth with no command standing faults it with
TRIP_OWN, whatever the new feedback, FAULT posted and OPENED with the cause sent, its state showing that it had been closed (log 18;
in SEPARATING and FORCED_OPEN, where a command always stands in a run, FAULT alone is claimed); one that leaves OPEN with no command
standing at any other berth faults it with BREAKER_CLOSE, and at a FAULTED one replaces its cause, where CLOSED feedback with the
earthing switch not reported open gives EARTH_SWITCH in its place (log 32). That a command stands until its feedback and falls there
is the model's form of it (log 31), that a BLOCKED berth is faulted too its reading (log 41), and that the cause of a selected trip
is replaced its choice (log 57). -/
def Obligations.BreakerFeedbackActs : Prop :=
  ∀ (s : State) (b : Berth), s.powered = true → PermitApart s →
    (s.breaker b ≠ .closed → (s.bu b).breakerCmd = some .close → (s.bu b).st = .sync .closing → s.switch b = some .opened →
        Goes (exec (.breakerFeedback b true false) s) fun t =>
          (t.bu b).st = .parallel ∧ (t.bu b).breakerCmd = none ∧ (t.pb b).closeSup = none ∧ Given t b .closed
            ∧ t.transfer.parallel = some (s.now + s.set.parallelLimit * 1000) ∧ t.transfer.holder = s.transfer.holder)
      ∧ (s.breaker b ≠ .closed → (s.bu b).breakerCmd = some .close → (s.bu b).st = .ready .openClose → s.switch b = some .opened →
        Goes (exec (.breakerFeedback b true false) s) fun t =>
          (t.bu b).st = (if (s.ch b).link = .lost then .onShore .linkHold else .onShore .supplied)
            ∧ (t.bu b).breakerCmd = none ∧ (t.pb b).closeSup = none ∧ Given t b .closed)
      ∧ (s.breaker b ≠ .opened → (s.bu b).breakerCmd = some .opening → (s.bu b).detachSeen = false →
          (s.bu b).st = .returning .separating ∨ (s.bu b).st = .returning .forcedOpen →
        Goes (exec (.breakerFeedback b false true) s) fun t =>
          ((t.bu b).st = .released .earthing ∨ (t.bu b).st = .released .earthed) ∧ HoldsNothing t b
            ∧ Given t b (.opened .returned) ∧ (t.pb b).openSup = none ∧ (t.bu b).lastFault = (s.bu b).lastFault)
      ∧ (∀ x y : Bool, ¬ (x = true ∧ y = false) → s.breaker b = .closed → (s.bu b).breakerCmd = none →
          (s.bu b).detachSeen = false → (s.bu b).st.supplied = true →
        Goes (exec (.breakerFeedback b x y) s) fun t => Faulted t b .tripOwn ∧ Opening t b ∧ Posted s t (.fault b .tripOwn)
          ∧ ((s.bu b).st ≠ .returning .separating → (s.bu b).st ≠ .returning .forcedOpen → FaultReported s t b .tripOwn))
      ∧ (∀ x y : Bool, ¬ (x = false ∧ y = true) → s.breaker b = .opened → (s.bu b).breakerCmd = none →
          (s.bu b).detachSeen = false → (s.bu b).st.supplied = false →
        Goes (exec (.breakerFeedback b x y) s) fun t =>
          let c : FaultCause := if x = true ∧ y = false ∧ s.switch b ≠ some .opened then .earthSwitch else .breakerClose
          (t.bu b).st = .faulted ∧ (t.bu b).lastFault = some c ∧ Opening t b
            ∧ ((s.bu b).st ≠ .faulted → Faulted t b c))
      ∧ (s.breaker b ≠ .opened → Goes (exec (.breakerFeedback b false true) s) fun t =>
          (s.closeOutstanding b = false → (t.pb b).openSup = none) ∧ (t.pb b).backupPending = none
            ∧ ∀ g : Group, t.holders g = (s.holders g).filter fun h => !(h.berth == b && h.cleared))

/-- Expiry of the close supervision withdraws the close, commands the breaker open and faults the berth with BREAKER_CLOSE; expiry
of the open supervision with the breaker not reported open faults it with BREAKER_OPEN and asserts its group's backup trip output,
with the berth in the holder list once, and each other berth of the group with its breaker closed is marked backup-pending, or
faults with BACKUP_TRIP at once where its current report shows the supply dead (R175 step 4; berth by berth from B1, the model's
choice, log 77). With the breaker reported open, where a close had been withdrawn, the open command ends with its supervision and
nothing else changes (log 11). An entry that stands in the holder list keeps its cleared mark (log 55, DESIGN CHOICE). The clock at
the expiry is the model's (log 3). -/
def Obligations.BreakerSupervisionExpires : Prop :=
  ∀ (s : State) (b : Berth) (due : Nat), s.powered = true →
    ((s.pb b).closeSup = some due → PermitApart s → (s.bu b).st ≠ .faulted → (s.bu b).detachSeen = false →
        Goes (exec (.closeSupervisionExpiry b) s) fun t =>
          Faulted t b .breakerClose ∧ Opening t b ∧ NoClose t b)
      ∧ ((s.pb b).openSup = some due → s.breaker b = .opened → Goes (exec (.openSupervisionExpiry b) s) fun t =>
        t = { s with now := max s.now due, berths := t.berths, protect := t.protect } ∧ (∀ c : Berth, c ≠ b → t.bu c = s.bu c)
          ∧ (t.pb b).openSup = none ∧ (t.bu b).breakerCmd ≠ some .opening ∧ (t.bu b).st = (s.bu b).st
          ∧ (t.bu b).lastFault = (s.bu b).lastFault ∧ ∀ g : Group, t.holders g = s.holders g)
      ∧ ((s.pb b).openSup = some due → s.breaker b ≠ .opened → Goes (exec (.openSupervisionExpiry b) s) fun t =>
        (t.bu b).lastFault = some .breakerOpen ∧ t.output (s.bset b).group = true
          ∧ (∃ h ∈ t.holders (s.bset b).group, h.berth = b) ∧ t.lines = s.lines
          ∧ t.holders (s.bset b).group =
              (if (s.holders (s.bset b).group).any (fun h => h.berth == b) then s.holders (s.bset b).group
               else s.holders (s.bset b).group ++ [{ berth := b, cleared := false }])
          ∧ (PermitApart s → TestsApart s → (s.bu b).st ≠ .faulted → (s.bu b).detachSeen = false →
              Faulted t b .breakerOpen)
          ∧ (PermitApart s → TestsApart s → ∀ c : Berth, c ≠ b → (s.bset c).group = (s.bset b).group → s.breaker c = .closed →
              (s.bu c).st ≠ .faulted → (s.bu c).detachSeen = false →
              if s.supplyDead c = true then Faulted t c .backupTrip ∧ Opening t c ∧ (t.pb c).backupPending = none
              else (t.pb c).backupPending = some (s.bset b).group ∧ (t.bu c).lastFault = (s.bu c).lastFault))

/-! ## Trips and E-stop -/

/-- An asserted own trip input faults an exposed berth whose trip source takes it, a close that was outstanding withdrawn, and is
recorded alone at any other; an asserted group bus does so at the berths of its group (from B1 to B6, the model's choice, log 76).
FAULT is posted, and OPENED with the cause sent where the breaker had been closed, which a supplied state shows too (log 18), of a
berth that waits for no forward step. That an input acts on an exposed berth that another selected input has tripped already is the
model's choice (log 67). -/
def Obligations.TripInputsFaultExposedBerths : Prop :=
  ∀ s : State, s.powered = true → PermitApart s →
    (∀ b : Berth, (s.ln b).ownTrip = false → (s.bu b).detachSeen = false → Goes (exec (.ownTripInputChange b true) s) fun t =>
        (t.ln b).ownTrip = true
          ∧ if (s.bset b).tripSource ≠ .group ∧ s.exposed b = true then
              Faulted t b .tripOwn ∧ Opening t b ∧ NoClose t b ∧ FaultReported s t b .tripOwn
            else OnlyWires s t)
      ∧ (∀ b : Berth, Goes (exec (.ownTripInputChange b false) s) fun t => (t.ln b).ownTrip = false ∧ OnlyWires s t)
      ∧ (∀ g : Group, s.bus g = false → TestsApart s → Goes (exec (.groupTripBusChange g true) s) fun t =>
        t.bus g = true
          ∧ ∀ b : Berth, (s.bset b).group = g → (s.bset b).tripSource ≠ .own → s.exposed b = true →
              (s.bu b).detachSeen = false →
                Faulted t b .tripGroup ∧ Opening t b ∧ NoClose t b ∧ Posted s t (.fault b .tripGroup)
                  ∧ (s.breaker b = .closed ∨ NoForwardStepWaits s b → FaultReported s t b .tripGroup))
      ∧ ∀ g : Group, Goes (exec (.groupTripBusChange g false) s) fun t => t.bus g = false ∧ OnlyWires s t

/-- E-stop becoming active opens every breaker that is not reported open, withdraws every close outstanding, faults every connected
berth with ESTOP, reports it (FAULT, and OPENED where its breaker had been closed, which a supplied state shows too, log 18, of a
berth that waits for no forward step) and leaves every berth in PROBE, which has no entry in the Permit Line, in QUIET. E-stop
becoming inactive restarts the quiet interval of every berth in PROBE, which waits for no test and has no entry. -/
def Obligations.EstopFaultsConnectedBerths : Prop :=
  ∀ s : State, s.powered = true → PermitApart s →
    (s.lines.estop = false → Goes (exec .estopActive s) fun t =>
        t.lines.estop = true
          ∧ ∀ b : Berth,
              ((s.bu b).st.connected = true → (s.bu b).detachSeen = false →
                  Faulted t b .estop ∧ Opening t b ∧ NoClose t b ∧ Posted s t (.fault b .estop)
                    ∧ (s.breaker b = .closed ∨ NoForwardStepWaits s b → FaultReported s t b .estop))
                ∧ (s.breaker b ≠ .opened ∨ s.closeOutstanding b = true → (t.bu b).breakerCmd = some .opening ∧ NoClose t b)
                ∧ ((∀ e ∈ s.transfer.line, e.berth ≠ b) → ∀ x, (s.bu b).st = .probe x → (t.bu b).st = .probe .quiet))
      ∧ (s.lines.estop = true → Goes (exec .estopInactive s) fun t =>
        t.lines.estop = false
          ∧ ∀ b : Berth, (∀ e ∈ s.tests.queue, e.berth ≠ b) → (∀ e ∈ s.transfer.line, e.berth ≠ b) → ∀ x, (s.bu b).st = .probe x →
              (t.bu b).st = .probe .quiet ∧ (t.bu b).timers.quiet = some (s.now + 2000) ∧ (t.bu b).quietDone = false)

/-- The disagreement timers fault the berth with EARTH_SWITCH and SELECTOR; in BLOCKED the cause is recorded alone, in FAULTED it
replaces the one recorded. The overdraw timer commands the breaker open and faults the berth with OVERDRAW. Each posts FAULT and,
where the berth faults, sends OPENED with the cause to a ship whose breaker had been closed, which a supplied state shows too (log
18). -/
def Obligations.WatchTimersFault : Prop :=
  ∀ (s : State) (b : Berth) (due : Nat),
    s.powered = true → PermitApart s → (s.bu b).detachSeen = false →
    let watched (c : FaultCause) (t : State) : Prop :=
      t.lines = s.lines ∧ Posted s t (.fault b c)
        ∧ if (s.bu b).st = .blocked then t.berths = s.berths.set b { s.bu b with lastFault := some c } ∧ t.channels = s.channels
          else if (s.bu b).st = .faulted then (t.bu b).st = .faulted ∧ (t.bu b).lastFault = some c
          else Faulted t b c ∧ Opening t b ∧ FaultReported s t b c
    ((s.pb b).switchDisagree = some due → Goes (exec (.earthSwitchDisagreementExpiry b) s) fun t =>
        watched .earthSwitch t ∧ (t.pb b).switchDisagree = none)
      ∧ ((s.pb b).selectorDisagree = some due → Goes (exec (.selectorDisagreementExpiry b) s) fun t =>
        watched .selector t ∧ (t.pb b).selectorDisagree = none)
      ∧ ∀ w : OverdrawWatch, (s.pb b).overdraw = some w → (s.bu b).st ≠ .faulted → (s.bu b).st ≠ .blocked →
        Goes (exec (.overdrawTimerExpiry b) s) fun t =>
          Faulted t b .overdraw ∧ Opening t b ∧ (t.pb b).overdraw = none ∧ t.lines = s.lines ∧ FaultReported s t b .overdraw

/-! ## Cable tests -/

/-- The earth phase: a reading above the earth limit ends the test with a FAIL record and faults the berth, and any other has the
switch commanded open under the 2 s limit, or begins the first attempt, at 50 V and the frequency of its index, where it is open
already. The clock at the expiry is the model's (log 3). -/
def Obligations.EarthPhaseEnds : Prop :=
  ∀ (s : State) (u : TestUnit) (b : Berth) (due r : Nat),
    s.powered = true → TestsApart s → PermitApart s → (s.unit u).berth = some b → (s.unit u).earthInterval = some due →
      Goes (exec (.earthIntervalExpiry u r) s) fun t =>
        t.lines = s.lines ∧ t.tests.lastGood = s.tests.lastGood
          ∧ if s.set.earthLimit < r then
              t.tests.results.get b =
                  some { verdict := .fail, unit := u, earth := some r, insulation := (s.unit u).insulation,
                         index := (s.unit u).index, hops := (s.unit u).attempt - 1 }
                ∧ ((∃ x, (s.bu b).st = .test x) → (s.bu b).detachSeen = false → Faulted t b .testFail)
            else
              (t.unit u).earth = some r
                ∧ if s.switch b = some .opened then
                    (t.unit u).status = .insulation ∧ (t.unit u).attempt = (s.unit u).attempt + 1
                      ∧ (t.unit u).measurement = some (max s.now due + 10000)
                      ∧ (t.unit u).injection =
                          some { volts := 50, mHz := [1000, 1400, 2000, 2800].getD (s.unit u).index.val 0 }
                  else
                    (t.unit u).status = .opening ∧ (t.unit u).switchLimit = some (max s.now due + 2000)
                      ∧ (t.bu b).switchCmd = some .opened ∧ (t.pb b).switchConfirmed = none

/-- A measurement: disturbed before the fourth attempt it hops to the next index and its frequency, at the fourth it ends
INCONCLUSIVE; undisturbed it sets the berth's last good index and ends PASS or FAIL by the insulation minimum. The unit then injects
nothing and discharges the cable for 1 s. The clock at the expiry is the model's (log 3). -/
def Obligations.MeasurementEnds : Prop :=
  ∀ (s : State) (u : TestUnit) (b : Berth) (due r : Nat) (mark : Bool),
    s.powered = true → (s.unit u).berth = some b → (s.unit u).measurement = some due →
      Goes (exec (.measurementIntervalExpiry u r mark) s) fun t =>
        t = { s with now := max s.now due, tests := t.tests } ∧ t.tests.queue = s.tests.queue ∧ t.tests.results = s.tests.results
          ∧ if mark = true ∨ (s.unit u).shorted = true then
              t.tests.lastGood = s.tests.lastGood
                ∧ if (s.unit u).attempt < 4 then
                    (t.unit u).status = .insulation ∧ (t.unit u).attempt = (s.unit u).attempt + 1
                      ∧ (t.unit u).index = (s.unit u).index + 1 ∧ (t.unit u).measurement = some (max s.now due + 10000)
                      ∧ (t.unit u).injection =
                          some { volts := 50, mHz := [1400, 2000, 2800, 1000].getD (s.unit u).index.val 0 }
                  else
                    (t.unit u).status = .closing ∧ (t.unit u).verdict = some .inconclusive ∧ (t.unit u).injection = none
                      ∧ (t.unit u).discharge = some (max s.now due + 1000)
            else
              t.tests.lastGood.get b = (s.unit u).index ∧ (t.unit u).insulation = some r ∧ (t.unit u).status = .closing
                ∧ (t.unit u).verdict = some (if s.set.insulationMin ≤ r then .pass else .fail) ∧ (t.unit u).injection = none
                ∧ (t.unit u).discharge = some (max s.now due + 1000)

/-- The closing step: with the breaker reported open and the cable below 10 % of Vn the switch is commanded closed under the 2 s
limit, and one reported closed already ends the test at once (log 14); otherwise the record keeps the verdict and the berth faults
with CABLE_STATE. The switch limit's expiry faults it with EARTH_SWITCH, in OPENING with the test aborted, in CLOSING with the
verdict kept. Switch feedback of the berth under test, its breaker open: open ends OPENING with the first attempt; other than open
in an attempt it marks it; closed ends the closing step and delivers the verdict, on PASS to QUEUED with an admission request, on
INCONCLUSIVE to RETEST_DELAY or, the third time, to FAULTED, on FAIL to FAULTED. That the switch's command falls at its feedback is
the model's (log 31). The clock at the expiry is the model's (log 3). -/
def Obligations.ClosingStepEnds : Prop :=
  ∀ (s : State) (u : TestUnit) (b : Berth) (due : Nat), s.powered = true → TestsApart s → PermitApart s → (s.unit u).berth = some b →
    (s.bu b).st = .test .testing → (s.bu b).detachSeen = false →
    (∀ (v : Verdict) (volts : Nat), (s.unit u).discharge = some due → (s.unit u).verdict = some v → (s.unit u).status = .closing →
        Goes (exec (.testDischargeIntervalExpiry u volts) s) fun t =>
          if s.breaker b = .opened ∧ 10 * volts < s.vn b then
            if s.switch b = some .closed then
              t.tests.results.get b = some ((s.unit u).result u v) ∧ (t.pb b).switchConfirmed = some .closed
                ∧ (v = .pass → (t.bu b).st = .queued)
            else
              (t.unit u).switchLimit = some (max s.now due + 2000) ∧ (t.bu b).switchCmd = some .closed
                ∧ (t.unit u).berth = some b ∧ (t.bu b).st = .test .testing
          else Faulted t b .cableState ∧ t.tests.results.get b = some ((s.unit u).result u v))
      ∧ ((s.unit u).switchLimit = some due → Goes (exec (.testSwitchLimitExpiry u) s) fun t =>
        Faulted t b .earthSwitch
          ∧ ((s.unit u).status = .opening → t.tests.results.get b = some ((s.unit u).result u .aborted))
          ∧ ∀ v : Verdict, (s.unit u).status = .closing → (s.unit u).verdict = some v →
              t.tests.results.get b = some ((s.unit u).result u v))
      ∧ (s.breaker b = .opened → s.closeOutstanding b = false →
        ((s.unit u).status = .opening → Goes (exec (.earthSwitchFeedback b false true) s) fun t =>
            (t.unit u).status = .insulation ∧ (t.unit u).attempt = (s.unit u).attempt + 1 ∧ (t.unit u).switchLimit = none
              ∧ (t.unit u).measurement = some (s.now + 10000) ∧ (t.unit u).shorted = false
              ∧ (t.unit u).injection = some { volts := 50, mHz := [1000, 1400, 2000, 2800].getD (s.unit u).index.val 0 }
              ∧ (t.bu b).st = .test .testing
              ∧ ((s.bu b).switchCmd = some .opened → (t.pb b).switchConfirmed = some .opened ∧ (t.bu b).switchCmd = none))
          ∧ (∀ x y : Bool, (s.unit u).status = .insulation → ¬ (x = false ∧ y = true) →
            Goes (exec (.earthSwitchFeedback b x y) s) fun t =>
              t.unit u = { s.unit u with shorted := true } ∧ (t.bu b).st = .test .testing)
          ∧ ∀ v : Verdict, (s.unit u).status = .closing → (s.unit u).switchLimit.isSome = true →
            (s.unit u).verdict = some v → Goes (exec (.earthSwitchFeedback b true false) s) fun t =>
              t.tests.results.get b = some ((s.unit u).result u v)
                ∧ (v = .pass →
                    (t.bu b).st = .queued ∧ (t.bu b).retestCount = 0
                      ∧ (s.entry b = none →
                          ∃ e, t.budget.queue.getLast? = some e ∧ e.berth = b ∧ e.kind = .admission ∧ e.passOver = 0
                            ∧ e.sought = (s.bu b).fullEff.getD 0 ∧ e.minimum = (s.bu b).minEff.getD 0))
                ∧ (v = .inconclusive →
                    if (s.bu b).retestCount < 2 then
                      (t.bu b).st = .test .retestDelay ∧ (t.bu b).retestCount = (s.bu b).retestCount + 1
                        ∧ (t.bu b).timers.retest = some (s.now + 60000)
                    else Faulted t b .testInconclusive)
                ∧ (v = .fail → Faulted t b .testFail))

/-! ## Admission and the converter bank -/

/-- A scan of one ADMIT entry: the candidate is the largest multiple of 10 within headroom and full′, at F60 the largest whose draw
the headroom carries, within the converter margin and, under the suspension mark, within the larger of the minimum and 10; where it
reaches the minimum and 10, the berth is granted it under the next number and enters READY, with a TOPUP entry for the rest;
otherwise, and at F60 with no module counted, nothing changes. Of two F50 ADMIT entries the first of which does not fit, the second
is served where it fits, with the first's pass-over count raised, unless that count stands at 3. A TOPUP entry is raised toward
full′ as far as headroom, and at F60 the converter margin, carry; in LINK_HOLD and under the suspension mark at F60 it is passed by.
That a held scan changes nothing, that a scan none has started makes its pass, and that a scan started on less headroom than stands
now sees no more than that, is the model's (log 22). -/
def Obligations.ScanServesOneEntry : Prop :=
  ∀ (s : State) (k : ScanStart), s.powered = true →
    (s.scansHeld = true → Goes (exec .admissionScan s) fun t => t = s)
      ∧ (s.scansHeld = false → s.budget.queue = [] → Goes (exec .admissionScan s) fun t =>
        t = { s with budget := { s.budget with scans := s.budget.scans.tail } })
      ∧ (s.scansHeld = false → s.budget.scans = [k] → s.terminalHeadroom ≤ k.headroom → s.terminalMargin ≤ k.margin →
          s.budget.seqCounter < 4294967295 →
        (∀ (e : AdmEntry) (c : SClass), s.budget.queue = [e] → e.join ≤ k.upto → e.kind = .admission → (s.bu e.berth).st ≠ .adopted →
            (s.bu e.berth).sclass = some c → (s.bu e.berth).fullEff = some e.sought → 0 < s.set.eff → s.set.eff ≤ 100 →
          Goes (exec .admissionScan s) fun t =>
            let h := s.headroom e.berth
            let g : Int :=
              match c with
              | .f50 => min (h / 10 * 10) e.sought
              | .f60 =>
                let x := h * s.set.eff / 100 / 10 * 10
                let y := if h < (drawOf .f60 s.set.eff x.toNat : Nat) then x - 10 else x
                let z := min (min y e.sought) (s.margin e.berth)
                if s.bank.suspended then min z (max e.minimum 10 : Nat) else z
            if (e.minimum : Int) ≤ g ∧ 10 ≤ g ∧ (c = .f60 → s.bank.counted ≠ 0) then
              ((t.bu e.berth).grant : Int) = g ∧ (t.bu e.berth).draw = drawOf c s.set.eff (t.bu e.berth).grant
                ∧ (t.bu e.berth).seq = some (s.budget.seqCounter + 1) ∧ (∃ x, (t.bu e.berth).st = .ready x)
                ∧ (g < e.sought → ∃ f, t.budget.queue = [f] ∧ f.berth = e.berth ∧ f.kind = .topup ∧ (f.sought : Int) = e.sought - g)
                ∧ (g = e.sought → t.budget.queue = [])
            else t = { s with budget := { s.budget with scans := [] } })
          ∧ (∀ d e : AdmEntry, s.budget.queue = [d, e] → d.join ≤ k.upto → e.join ≤ k.upto → d.berth ≠ e.berth →
              (s.bu e.berth).st ≠ .adopted →
              d.kind = .admission → e.kind = .admission → (s.bu d.berth).sclass = some .f50 → (s.bu e.berth).sclass = some .f50 →
              ¬ ((d.minimum : Int) ≤ min (s.headroom d.berth / 10 * 10) d.sought
                  ∧ 10 ≤ min (s.headroom d.berth / 10 * 10) d.sought) →
            Goes (exec .admissionScan s) fun t =>
              let g : Int := min (s.headroom e.berth / 10 * 10) e.sought
              if d.passOver < 3 ∧ (e.minimum : Int) ≤ g ∧ 10 ≤ g then
                ((t.bu e.berth).grant : Int) = g ∧ (t.bu e.berth).seq = some (s.budget.seqCounter + 1)
                  ∧ (∃ x, (t.bu e.berth).st = .ready x) ∧ (t.bu d.berth).grant = (s.bu d.berth).grant
                  ∧ ∃ f, t.budget.queue.head? = some f ∧ f.berth = d.berth ∧ f.kind = .admission ∧ f.passOver = d.passOver + 1
                      ∧ f.sought = d.sought
              else t = { s with budget := { s.budget with scans := [] } })
          ∧ ∀ (e : AdmEntry) (c : SClass), s.budget.queue = [e] → e.join ≤ k.upto → e.kind = .topup →
              (s.bu e.berth).sclass = some c → 0 < s.set.eff → s.set.eff ≤ 100 →
            Goes (exec .admissionScan s) fun t =>
              let h := s.headroom e.berth
              let full := (s.bu e.berth).fullEff.getD 0
              let g : Int :=
                match c with
                | .f50 => min (h / 10 * 10) full
                | .f60 =>
                  let x := h * s.set.eff / 100 / 10 * 10
                  let y := if h < (drawOf .f60 s.set.eff x.toNat : Nat) then x - 10 else x
                  min (min y full) (s.margin e.berth / 10 * 10)
              if (s.bu e.berth).st = .onShore .linkHold ∨ (c = .f60 ∧ s.bank.suspended = true) then
                t = { s with budget := { s.budget with scans := [] } }
              else if ((s.bu e.berth).grant : Int) < g then
                ((t.bu e.berth).grant : Int) = g ∧ (t.bu e.berth).draw = drawOf c s.set.eff (t.bu e.berth).grant
                  ∧ (t.bu e.berth).seq = some (s.budget.seqCounter + 1)
                  ∧ ((s.bu e.berth).st ≠ .ready .waitBank → (t.bu e.berth).st = (s.bu e.berth).st)
                  ∧ ((s.ch e.berth).link = .up → (∀ x, (s.bu e.berth).st ≠ .ready x) →
                      Given t e.berth (.raised (t.bu e.berth).grant))
                  ∧ (g = full → t.budget.queue = [])
                  ∧ (g < full → t.budget.queue = [{ e with sought := full - (t.bu e.berth).grant }])
              else t = { s with budget := { s.budget with scans := [] } })

/-- Module events by module state (Table 5-4) with the restart limit's and the proof limit's expiry: the state and strike each leads
to (a module sent to PROOF_PENDING may be under test by the end of the event), and nothing but the settle timer changes where the
event is ignored. Where a failed restart takes a counted module away, the F60 grants come within the capacity of those left: where
they already are and no entry waits, every grant stands; else grants fall, but for those that the scan of the same event makes under
new numbers, and an F60 berth that would fall below its min′ is shed, from READY and SYNC to QUEUED with an ADMIT entry, from
ON_SHORE and ADOPTED to RETURN (of these only a berth in WAIT_PERMIT waits in the Permit Line, in the forward class). Where a passed
proof test brings a module back, MODULE is posted with the new count and mark, and an F60 berth that waits alone in the Admission
Queue is granted what it seeks within the event where that fits (R123; that the report's scan runs within the event and sees the
whole queue is the model's choice against R92, log 66). -/
def Obligations.ModuleEventsByState : Prop :=
  ∀ (s : State) (m : Module), s.powered = true → ¬ m ∈ s.bank.proofList →
    (Goes (exec (.tripped m) s) fun t =>
        match (s.bank.modules.get m).st with
        | .inService =>
          (t.bank.modules.get m).st = .restarting .inService ∧ (t.bank.modules.get m).restartLimit = some (s.now + 30000)
        | .watch => (t.bank.modules.get m).st = .restarting .watch ∧ (t.bank.modules.get m).restartLimit = some (s.now + 30000)
        | .proofing _ => (t.bank.modules.get m).st = .retired
        | _ => t = { s with bank := { s.bank with settle := t.bank.settle } })
      ∧ (Goes (exec (.restartOk m) s) fun t =>
        match (s.bank.modules.get m).st with
        | .restarting .inService =>
          (t.bank.modules.get m).st = .watch ∧ (t.bank.modules.get m).strike = 1 ∧ (t.bank.modules.get m).restartLimit = none
        | .restarting .watch => (t.bank.modules.get m).st = .retired ∧ (t.bank.modules.get m).cmd = .stop
        | _ => t = { s with bank := { s.bank with settle := t.bank.settle } })
      ∧ (Goes (exec (.restartFail m) s) fun t =>
        match (s.bank.modules.get m).st with
        | .restarting _ =>
          ((t.bank.modules.get m).st = .proofPending ∨ (t.bank.modules.get m).st.isProofing = true)
            ∧ (t.bank.modules.get m).strike = 0 ∧ (t.bank.modules.get m).restartLimit = none
            ∧ (s.bank.counted = countedOf s.bank.modules → s.budget.seqCounter + 12 < 4294967295 →
                t.bank.counted + 1 = s.bank.counted ∧ t.sum60 ≤ 250 * t.bank.counted
                  ∧ (∀ b : Berth, (t.bu b).grant ≤ (s.bu b).grant
                      ∨ ∃ n : Nat, (t.bu b).seq = some n ∧ s.budget.seqCounter < n)
                  ∧ (s.sum60 ≤ 250 * t.bank.counted → s.budget.queue = [] → ∀ b : Berth, (t.bu b).grant = (s.bu b).grant)
                  ∧ (PermitApart s → ∀ b : Berth,
                      (s.bu b).grant ≠ 0 → (s.bu b).minEff.getD 0 ≠ 0 → (t.bu b).grant = 0 →
                        s.cls b = .f60 ∧ t.sum60 < s.sum60
                          ∧ ((∀ e ∈ s.transfer.line, e.berth = b → e.cls = .forward ∧ (s.bu b).st = .ready .waitPermit) →
                            match (s.bu b).st with
                            | .ready _ | .sync _ => (t.bu b).st = .queued ∧ t.queueEntry b = some .admission
                            | .onShore _ | .adopted =>
                              ((t.bu b).st = .returning .lineWait ∨ (t.bu b).st = .returning .gensWait) ∧ (t.bu b).shed = true
                            | _ => True)))
        | _ => t = { s with bank := { s.bank with settle := t.bank.settle } })
      ∧ (Goes (exec (.proofPass m) s) fun t =>
        match (s.bank.modules.get m).st with
        | .proofing _ =>
          (t.bank.modules.get m).st = .inService ∧ (t.bank.modules.get m).strike = 0
            ∧ Posted s t (.module m .inService 0 t.bank.counted t.bank.suspended)
            ∧ (s.bank.counted = countedOf s.bank.modules →
                t.bank.counted = s.bank.counted + 1
                  ∧ t.bank.suspended = decide (t.bank.counted ≤ s.set.suspThreshold)
                  ∧ ∀ e : AdmEntry, s.budget.queue = [e] → s.scansHeld = false → e.join ≤ s.budget.joinCounter →
                      e.kind = .admission → (s.bu e.berth).st = .queued → (s.bu e.berth).sclass = some .f60 →
                      (s.bu e.berth).fullEff = some e.sought → s.budget.seqCounter < 4294967295 → 0 < s.set.eff → s.set.eff ≤ 100 →
                      let h := s.headroom e.berth
                      let x := h * s.set.eff / 100 / 10 * 10
                      let y := if h < (drawOf .f60 s.set.eff x.toNat : Nat) then x - 10 else x
                      let z := min (min y e.sought) (s.margin e.berth + 250)
                      let g := if t.bank.suspended then min z (max e.minimum 10 : Nat) else z
                      if (e.minimum : Int) ≤ g ∧ 10 ≤ g then
                        ((t.bu e.berth).grant : Int) = g ∧ (t.bu e.berth).seq = some (s.budget.seqCounter + 1)
                          ∧ ∃ x, (t.bu e.berth).st = .ready x
                      else (t.bu e.berth).st = .queued ∧ (t.bu e.berth).grant = (s.bu e.berth).grant)
        | _ => t = { s with bank := { s.bank with settle := t.bank.settle } })
      ∧ (Goes (exec (.proofFail m) s) fun t =>
        match (s.bank.modules.get m).st with
        | .proofing _ => (t.bank.modules.get m).st = .retired ∧ (t.bank.modules.get m).cmd = .stop
        | _ => t = { s with bank := { s.bank with settle := t.bank.settle } })
      ∧ ∀ due : Nat,
        ((s.bank.modules.get m).restartLimit = some due → Goes (exec (.restartLimitExpiry m) s) fun t =>
            ((t.bank.modules.get m).st = .proofPending ∨ (t.bank.modules.get m).st.isProofing = true)
              ∧ (t.bank.modules.get m).strike = 0 ∧ (t.bank.modules.get m).restartLimit = none)
          ∧ ((s.bank.modules.get m).proofLimit = some due → Goes (exec (.proofLimitExpiry m) s) fun t =>
            (t.bank.modules.get m).st = .retired ∧ (t.bank.modules.get m).proofLimit = none)

/-- The settle timer's expiry takes the bank to RUNNING with demand above 0 and to IDLE without; the idle-stop timer's expiry stops
an IDLE bank (which may start again to prove modules) or, while a proof test runs or waits, sets the stop-due mark. The clock at the
expiry is the model's (log 3). -/
def Obligations.BankTimersExpire : Prop :=
  ∀ (s : State) (due : Nat), s.powered = true →
    (s.bank.settle = some due → Goes (exec .settleTimerExpiry s) fun t =>
        t.bank.settle = none ∧ t.bank.demand = s.bank.demand ∧ t.lines = s.lines
          ∧ if s.bank.demand = 0 then
              t.bank.st = .idle ∧ t.bank.idleStop = some (max s.now due + s.set.bankIdleStop * 60000)
            else t.bank.st = .running ∧ t.bank.idleStop = none)
      ∧ (s.bank.idleStop = some due → Goes (exec .idleStopTimerExpiry s) fun t =>
        t.bank.idleStop = none ∧ t.lines = s.lines ∧ (∀ b : Berth, t.bu b = s.bu b)
          ∧ if s.bank.proofing = true ∨ s.bank.proofList ≠ [] then t.bank.stopDue = true ∧ t.bank.st = s.bank.st
            else (t.bank.st = .stopped ∨ t.bank.st = .starting) ∧ t.bank.stopDue = false)

end
end

