-- ==== Sys2Proof/Laws/State.lean ====
section
/-! SUPPORT. What each replacement of a part of the state leaves of every field: one lemma per field and update, all by `rfl`, and
what is read at one berth or module after it. -/

namespace Sys2Proof

/-! ## One value per berth, one per module -/

@[simp] theorem PerBerth.get_set_same {α : Type} (v : PerBerth α) (b : Berth) (x : α) : (v.set b x).get b = x := by cases b <;> rfl

theorem PerBerth.get_set_other {α : Type} (v : PerBerth α) (b c : Berth) (x : α) (h : c ≠ b) : (v.set b x).get c = v.get c := by
  cases b <;> cases c <;> first | rfl | exact absurd rfl h

theorem PerBerth.get_set {α : Type} (v : PerBerth α) (b c : Berth) (x : α) :
    (v.set b x).get c = if c = b then x else v.get c := by
  split
  · subst c; exact v.get_set_same b x
  · exact v.get_set_other b c x ‹_›

@[simp] theorem PerBerth.set_get_same {α : Type} (v : PerBerth α) (b : Berth) : v.set b (v.get b) = v := by cases b <;> rfl

@[simp] theorem PerBerth.set_set {α : Type} (v : PerBerth α) (b : Berth) (x y : α) : (v.set b x).set b y = v.set b y := by
  cases b <;> rfl

@[simp] theorem PerBerth.get_const {α : Type} (x : α) (b : Berth) : (PerBerth.const x).get b = x := by cases b <;> rfl

@[simp] theorem PerBerth.get_ofFn {α : Type} (f : Berth → α) (b : Berth) : (PerBerth.ofFn f).get b = f b := by cases b <;> rfl

/-- Two tables with the same value at every berth are the same. -/
theorem PerBerth.eq_of_get {α : Type} (v w : PerBerth α) (h : ∀ b : Berth, v.get b = w.get b) : v = w := by
  cases v; cases w
  have h1 := h .b1; have h2 := h .b2; have h3 := h .b3; have h4 := h .b4; have h5 := h .b5; have h6 := h .b6
  simp only [PerBerth.get] at h1 h2 h3 h4 h5 h6
  simp only [h1, h2, h3, h4, h5, h6]

@[simp] theorem PerModule.get_set_same {α : Type} (v : PerModule α) (m : Module) (x : α) : (v.set m x).get m = x := by
  cases m <;> rfl

theorem PerModule.get_set_other {α : Type} (v : PerModule α) (m n : Module) (x : α) (h : n ≠ m) :
    (v.set m x).get n = v.get n := by
  cases m <;> cases n <;> first | rfl | exact absurd rfl h

theorem PerModule.get_set {α : Type} (v : PerModule α) (m n : Module) (x : α) :
    (v.set m x).get n = if n = m then x else v.get n := by
  split
  · subst n; exact v.get_set_same m x
  · exact v.get_set_other m n x ‹_›

@[simp] theorem PerModule.get_map {α β : Type} (f : α → β) (v : PerModule α) (m : Module) : (v.map f).get m = f (v.get m) := by
  cases m <;> rfl

theorem Berth.mem_all (b : Berth) : b ∈ Berth.all := by cases b <;> decide

theorem Module.mem_all (m : Module) : m ∈ Module.all := by cases m <;> decide

namespace Machine

/-! ## Every field after every update -/

@[simp] theorem State.mapBu_powered (s : State) (b : Berth) (f : BerthUnit → BerthUnit) :
    (s.mapBu b f).powered = s.powered := rfl
@[simp] theorem State.mapBu_now (s : State) (b : Berth) (f : BerthUnit → BerthUnit) : (s.mapBu b f).now = s.now := rfl
@[simp] theorem State.mapBu_lines (s : State) (b : Berth) (f : BerthUnit → BerthUnit) : (s.mapBu b f).lines = s.lines := rfl
@[simp] theorem State.mapBu_berths (s : State) (b : Berth) (f : BerthUnit → BerthUnit) :
    (s.mapBu b f).berths = s.berths.set b (f (s.bu b)) := rfl
@[simp] theorem State.mapBu_channels (s : State) (b : Berth) (f : BerthUnit → BerthUnit) :
    (s.mapBu b f).channels = s.channels := rfl
@[simp] theorem State.mapBu_tests (s : State) (b : Berth) (f : BerthUnit → BerthUnit) : (s.mapBu b f).tests = s.tests := rfl
@[simp] theorem State.mapBu_budget (s : State) (b : Berth) (f : BerthUnit → BerthUnit) : (s.mapBu b f).budget = s.budget := rfl
@[simp] theorem State.mapBu_bank (s : State) (b : Berth) (f : BerthUnit → BerthUnit) : (s.mapBu b f).bank = s.bank := rfl
@[simp] theorem State.mapBu_transfer (s : State) (b : Berth) (f : BerthUnit → BerthUnit) :
    (s.mapBu b f).transfer = s.transfer := rfl
@[simp] theorem State.mapBu_protect (s : State) (b : Berth) (f : BerthUnit → BerthUnit) :
    (s.mapBu b f).protect = s.protect := rfl
@[simp] theorem State.mapBu_port (s : State) (b : Berth) (f : BerthUnit → BerthUnit) : (s.mapBu b f).port = s.port := rfl
@[simp] theorem State.mapBu_store (s : State) (b : Berth) (f : BerthUnit → BerthUnit) : (s.mapBu b f).store = s.store := rfl
@[simp] theorem State.mapBu_start (s : State) (b : Berth) (f : BerthUnit → BerthUnit) : (s.mapBu b f).start = s.start := rfl
@[simp] theorem State.mapBu_pending (s : State) (b : Berth) (f : BerthUnit → BerthUnit) :
    (s.mapBu b f).pending = s.pending := rfl

@[simp] theorem State.mapTimers_powered (s : State) (b : Berth) (f : BerthTimers → BerthTimers) :
    (s.mapTimers b f).powered = s.powered := rfl
@[simp] theorem State.mapTimers_now (s : State) (b : Berth) (f : BerthTimers → BerthTimers) :
    (s.mapTimers b f).now = s.now := rfl
@[simp] theorem State.mapTimers_lines (s : State) (b : Berth) (f : BerthTimers → BerthTimers) :
    (s.mapTimers b f).lines = s.lines := rfl
@[simp] theorem State.mapTimers_berths (s : State) (b : Berth) (f : BerthTimers → BerthTimers) :
    (s.mapTimers b f).berths = s.berths.set b { s.bu b with timers := f (s.bu b).timers } := rfl
@[simp] theorem State.mapTimers_channels (s : State) (b : Berth) (f : BerthTimers → BerthTimers) :
    (s.mapTimers b f).channels = s.channels := rfl
@[simp] theorem State.mapTimers_tests (s : State) (b : Berth) (f : BerthTimers → BerthTimers) :
    (s.mapTimers b f).tests = s.tests := rfl
@[simp] theorem State.mapTimers_budget (s : State) (b : Berth) (f : BerthTimers → BerthTimers) :
    (s.mapTimers b f).budget = s.budget := rfl
@[simp] theorem State.mapTimers_bank (s : State) (b : Berth) (f : BerthTimers → BerthTimers) :
    (s.mapTimers b f).bank = s.bank := rfl
@[simp] theorem State.mapTimers_transfer (s : State) (b : Berth) (f : BerthTimers → BerthTimers) :
    (s.mapTimers b f).transfer = s.transfer := rfl
@[simp] theorem State.mapTimers_protect (s : State) (b : Berth) (f : BerthTimers → BerthTimers) :
    (s.mapTimers b f).protect = s.protect := rfl
@[simp] theorem State.mapTimers_port (s : State) (b : Berth) (f : BerthTimers → BerthTimers) :
    (s.mapTimers b f).port = s.port := rfl
@[simp] theorem State.mapTimers_store (s : State) (b : Berth) (f : BerthTimers → BerthTimers) :
    (s.mapTimers b f).store = s.store := rfl
@[simp] theorem State.mapTimers_start (s : State) (b : Berth) (f : BerthTimers → BerthTimers) :
    (s.mapTimers b f).start = s.start := rfl
@[simp] theorem State.mapTimers_pending (s : State) (b : Berth) (f : BerthTimers → BerthTimers) :
    (s.mapTimers b f).pending = s.pending := rfl

@[simp] theorem State.mapCh_powered (s : State) (b : Berth) (f : Channel → Channel) : (s.mapCh b f).powered = s.powered := rfl
@[simp] theorem State.mapCh_now (s : State) (b : Berth) (f : Channel → Channel) : (s.mapCh b f).now = s.now := rfl
@[simp] theorem State.mapCh_lines (s : State) (b : Berth) (f : Channel → Channel) : (s.mapCh b f).lines = s.lines := rfl
@[simp] theorem State.mapCh_berths (s : State) (b : Berth) (f : Channel → Channel) : (s.mapCh b f).berths = s.berths := rfl
@[simp] theorem State.mapCh_channels (s : State) (b : Berth) (f : Channel → Channel) :
    (s.mapCh b f).channels = s.channels.set b (f (s.ch b)) := rfl
@[simp] theorem State.mapCh_tests (s : State) (b : Berth) (f : Channel → Channel) : (s.mapCh b f).tests = s.tests := rfl
@[simp] theorem State.mapCh_budget (s : State) (b : Berth) (f : Channel → Channel) : (s.mapCh b f).budget = s.budget := rfl
@[simp] theorem State.mapCh_bank (s : State) (b : Berth) (f : Channel → Channel) : (s.mapCh b f).bank = s.bank := rfl
@[simp] theorem State.mapCh_transfer (s : State) (b : Berth) (f : Channel → Channel) :
    (s.mapCh b f).transfer = s.transfer := rfl
@[simp] theorem State.mapCh_protect (s : State) (b : Berth) (f : Channel → Channel) : (s.mapCh b f).protect = s.protect := rfl
@[simp] theorem State.mapCh_port (s : State) (b : Berth) (f : Channel → Channel) : (s.mapCh b f).port = s.port := rfl
@[simp] theorem State.mapCh_store (s : State) (b : Berth) (f : Channel → Channel) : (s.mapCh b f).store = s.store := rfl
@[simp] theorem State.mapCh_start (s : State) (b : Berth) (f : Channel → Channel) : (s.mapCh b f).start = s.start := rfl
@[simp] theorem State.mapCh_pending (s : State) (b : Berth) (f : Channel → Channel) : (s.mapCh b f).pending = s.pending := rfl

@[simp] theorem State.mapPb_powered (s : State) (b : Berth) (f : ProtBerth → ProtBerth) :
    (s.mapPb b f).powered = s.powered := rfl
@[simp] theorem State.mapPb_now (s : State) (b : Berth) (f : ProtBerth → ProtBerth) : (s.mapPb b f).now = s.now := rfl
@[simp] theorem State.mapPb_lines (s : State) (b : Berth) (f : ProtBerth → ProtBerth) : (s.mapPb b f).lines = s.lines := rfl
@[simp] theorem State.mapPb_berths (s : State) (b : Berth) (f : ProtBerth → ProtBerth) : (s.mapPb b f).berths = s.berths := rfl
@[simp] theorem State.mapPb_channels (s : State) (b : Berth) (f : ProtBerth → ProtBerth) :
    (s.mapPb b f).channels = s.channels := rfl
@[simp] theorem State.mapPb_tests (s : State) (b : Berth) (f : ProtBerth → ProtBerth) : (s.mapPb b f).tests = s.tests := rfl
@[simp] theorem State.mapPb_budget (s : State) (b : Berth) (f : ProtBerth → ProtBerth) : (s.mapPb b f).budget = s.budget := rfl
@[simp] theorem State.mapPb_bank (s : State) (b : Berth) (f : ProtBerth → ProtBerth) : (s.mapPb b f).bank = s.bank := rfl
@[simp] theorem State.mapPb_transfer (s : State) (b : Berth) (f : ProtBerth → ProtBerth) :
    (s.mapPb b f).transfer = s.transfer := rfl
@[simp] theorem State.mapPb_protect (s : State) (b : Berth) (f : ProtBerth → ProtBerth) :
    (s.mapPb b f).protect = { s.protect with berth := s.protect.berth.set b (f (s.pb b)) } := rfl
@[simp] theorem State.mapPb_port (s : State) (b : Berth) (f : ProtBerth → ProtBerth) : (s.mapPb b f).port = s.port := rfl
@[simp] theorem State.mapPb_store (s : State) (b : Berth) (f : ProtBerth → ProtBerth) : (s.mapPb b f).store = s.store := rfl
@[simp] theorem State.mapPb_start (s : State) (b : Berth) (f : ProtBerth → ProtBerth) : (s.mapPb b f).start = s.start := rfl
@[simp] theorem State.mapPb_pending (s : State) (b : Berth) (f : ProtBerth → ProtBerth) :
    (s.mapPb b f).pending = s.pending := rfl

@[simp] theorem State.mapLn_powered (s : State) (b : Berth) (f : BerthLines → BerthLines) :
    (s.mapLn b f).powered = s.powered := rfl
@[simp] theorem State.mapLn_now (s : State) (b : Berth) (f : BerthLines → BerthLines) : (s.mapLn b f).now = s.now := rfl
@[simp] theorem State.mapLn_lines (s : State) (b : Berth) (f : BerthLines → BerthLines) :
    (s.mapLn b f).lines = { s.lines with berth := s.lines.berth.set b (f (s.ln b)) } := rfl
@[simp] theorem State.mapLn_berths (s : State) (b : Berth) (f : BerthLines → BerthLines) :
    (s.mapLn b f).berths = s.berths := rfl
@[simp] theorem State.mapLn_channels (s : State) (b : Berth) (f : BerthLines → BerthLines) :
    (s.mapLn b f).channels = s.channels := rfl
@[simp] theorem State.mapLn_tests (s : State) (b : Berth) (f : BerthLines → BerthLines) : (s.mapLn b f).tests = s.tests := rfl
@[simp] theorem State.mapLn_budget (s : State) (b : Berth) (f : BerthLines → BerthLines) :
    (s.mapLn b f).budget = s.budget := rfl
@[simp] theorem State.mapLn_bank (s : State) (b : Berth) (f : BerthLines → BerthLines) : (s.mapLn b f).bank = s.bank := rfl
@[simp] theorem State.mapLn_transfer (s : State) (b : Berth) (f : BerthLines → BerthLines) :
    (s.mapLn b f).transfer = s.transfer := rfl
@[simp] theorem State.mapLn_protect (s : State) (b : Berth) (f : BerthLines → BerthLines) :
    (s.mapLn b f).protect = s.protect := rfl
@[simp] theorem State.mapLn_port (s : State) (b : Berth) (f : BerthLines → BerthLines) : (s.mapLn b f).port = s.port := rfl
@[simp] theorem State.mapLn_store (s : State) (b : Berth) (f : BerthLines → BerthLines) : (s.mapLn b f).store = s.store := rfl
@[simp] theorem State.mapLn_start (s : State) (b : Berth) (f : BerthLines → BerthLines) : (s.mapLn b f).start = s.start := rfl
@[simp] theorem State.mapLn_pending (s : State) (b : Berth) (f : BerthLines → BerthLines) :
    (s.mapLn b f).pending = s.pending := rfl

@[simp] theorem State.mapBudget_powered (s : State) (f : FeederBudget → FeederBudget) :
    (s.mapBudget f).powered = s.powered := rfl
@[simp] theorem State.mapBudget_now (s : State) (f : FeederBudget → FeederBudget) : (s.mapBudget f).now = s.now := rfl
@[simp] theorem State.mapBudget_lines (s : State) (f : FeederBudget → FeederBudget) : (s.mapBudget f).lines = s.lines := rfl
@[simp] theorem State.mapBudget_berths (s : State) (f : FeederBudget → FeederBudget) : (s.mapBudget f).berths = s.berths := rfl
@[simp] theorem State.mapBudget_channels (s : State) (f : FeederBudget → FeederBudget) :
    (s.mapBudget f).channels = s.channels := rfl
@[simp] theorem State.mapBudget_tests (s : State) (f : FeederBudget → FeederBudget) : (s.mapBudget f).tests = s.tests := rfl
@[simp] theorem State.mapBudget_budget (s : State) (f : FeederBudget → FeederBudget) :
    (s.mapBudget f).budget = f s.budget := rfl
@[simp] theorem State.mapBudget_bank (s : State) (f : FeederBudget → FeederBudget) : (s.mapBudget f).bank = s.bank := rfl
@[simp] theorem State.mapBudget_transfer (s : State) (f : FeederBudget → FeederBudget) :
    (s.mapBudget f).transfer = s.transfer := rfl
@[simp] theorem State.mapBudget_protect (s : State) (f : FeederBudget → FeederBudget) :
    (s.mapBudget f).protect = s.protect := rfl
@[simp] theorem State.mapBudget_port (s : State) (f : FeederBudget → FeederBudget) : (s.mapBudget f).port = s.port := rfl
@[simp] theorem State.mapBudget_store (s : State) (f : FeederBudget → FeederBudget) : (s.mapBudget f).store = s.store := rfl
@[simp] theorem State.mapBudget_start (s : State) (f : FeederBudget → FeederBudget) : (s.mapBudget f).start = s.start := rfl
@[simp] theorem State.mapBudget_pending (s : State) (f : FeederBudget → FeederBudget) :
    (s.mapBudget f).pending = s.pending := rfl

@[simp] theorem State.mapBank_powered (s : State) (f : ConverterBank → ConverterBank) : (s.mapBank f).powered = s.powered := rfl
@[simp] theorem State.mapBank_now (s : State) (f : ConverterBank → ConverterBank) : (s.mapBank f).now = s.now := rfl
@[simp] theorem State.mapBank_lines (s : State) (f : ConverterBank → ConverterBank) : (s.mapBank f).lines = s.lines := rfl
@[simp] theorem State.mapBank_berths (s : State) (f : ConverterBank → ConverterBank) : (s.mapBank f).berths = s.berths := rfl
@[simp] theorem State.mapBank_channels (s : State) (f : ConverterBank → ConverterBank) :
    (s.mapBank f).channels = s.channels := rfl
@[simp] theorem State.mapBank_tests (s : State) (f : ConverterBank → ConverterBank) : (s.mapBank f).tests = s.tests := rfl
@[simp] theorem State.mapBank_budget (s : State) (f : ConverterBank → ConverterBank) : (s.mapBank f).budget = s.budget := rfl
@[simp] theorem State.mapBank_bank (s : State) (f : ConverterBank → ConverterBank) : (s.mapBank f).bank = f s.bank := rfl
@[simp] theorem State.mapBank_transfer (s : State) (f : ConverterBank → ConverterBank) :
    (s.mapBank f).transfer = s.transfer := rfl
@[simp] theorem State.mapBank_protect (s : State) (f : ConverterBank → ConverterBank) : (s.mapBank f).protect = s.protect := rfl
@[simp] theorem State.mapBank_port (s : State) (f : ConverterBank → ConverterBank) : (s.mapBank f).port = s.port := rfl
@[simp] theorem State.mapBank_store (s : State) (f : ConverterBank → ConverterBank) : (s.mapBank f).store = s.store := rfl
@[simp] theorem State.mapBank_start (s : State) (f : ConverterBank → ConverterBank) : (s.mapBank f).start = s.start := rfl
@[simp] theorem State.mapBank_pending (s : State) (f : ConverterBank → ConverterBank) : (s.mapBank f).pending = s.pending := rfl

@[simp] theorem State.mapModule_powered (s : State) (m : Module) (f : ModuleRec → ModuleRec) :
    (s.mapModule m f).powered = s.powered := rfl
@[simp] theorem State.mapModule_now (s : State) (m : Module) (f : ModuleRec → ModuleRec) : (s.mapModule m f).now = s.now := rfl
@[simp] theorem State.mapModule_lines (s : State) (m : Module) (f : ModuleRec → ModuleRec) :
    (s.mapModule m f).lines = s.lines := rfl
@[simp] theorem State.mapModule_berths (s : State) (m : Module) (f : ModuleRec → ModuleRec) :
    (s.mapModule m f).berths = s.berths := rfl
@[simp] theorem State.mapModule_channels (s : State) (m : Module) (f : ModuleRec → ModuleRec) :
    (s.mapModule m f).channels = s.channels := rfl
@[simp] theorem State.mapModule_tests (s : State) (m : Module) (f : ModuleRec → ModuleRec) :
    (s.mapModule m f).tests = s.tests := rfl
@[simp] theorem State.mapModule_budget (s : State) (m : Module) (f : ModuleRec → ModuleRec) :
    (s.mapModule m f).budget = s.budget := rfl
@[simp] theorem State.mapModule_bank (s : State) (m : Module) (f : ModuleRec → ModuleRec) :
    (s.mapModule m f).bank = { s.bank with modules := s.bank.modules.set m (f (s.bank.modules.get m)) } := rfl
@[simp] theorem State.mapModule_transfer (s : State) (m : Module) (f : ModuleRec → ModuleRec) :
    (s.mapModule m f).transfer = s.transfer := rfl
@[simp] theorem State.mapModule_protect (s : State) (m : Module) (f : ModuleRec → ModuleRec) :
    (s.mapModule m f).protect = s.protect := rfl
@[simp] theorem State.mapModule_port (s : State) (m : Module) (f : ModuleRec → ModuleRec) :
    (s.mapModule m f).port = s.port := rfl
@[simp] theorem State.mapModule_store (s : State) (m : Module) (f : ModuleRec → ModuleRec) :
    (s.mapModule m f).store = s.store := rfl
@[simp] theorem State.mapModule_start (s : State) (m : Module) (f : ModuleRec → ModuleRec) :
    (s.mapModule m f).start = s.start := rfl
@[simp] theorem State.mapModule_pending (s : State) (m : Module) (f : ModuleRec → ModuleRec) :
    (s.mapModule m f).pending = s.pending := rfl

@[simp] theorem State.mapTransfer_powered (s : State) (f : TransferUnit → TransferUnit) :
    (s.mapTransfer f).powered = s.powered := rfl
@[simp] theorem State.mapTransfer_now (s : State) (f : TransferUnit → TransferUnit) : (s.mapTransfer f).now = s.now := rfl
@[simp] theorem State.mapTransfer_lines (s : State) (f : TransferUnit → TransferUnit) : (s.mapTransfer f).lines = s.lines := rfl
@[simp] theorem State.mapTransfer_berths (s : State) (f : TransferUnit → TransferUnit) :
    (s.mapTransfer f).berths = s.berths := rfl
@[simp] theorem State.mapTransfer_channels (s : State) (f : TransferUnit → TransferUnit) :
    (s.mapTransfer f).channels = s.channels := rfl
@[simp] theorem State.mapTransfer_tests (s : State) (f : TransferUnit → TransferUnit) : (s.mapTransfer f).tests = s.tests := rfl
@[simp] theorem State.mapTransfer_budget (s : State) (f : TransferUnit → TransferUnit) :
    (s.mapTransfer f).budget = s.budget := rfl
@[simp] theorem State.mapTransfer_bank (s : State) (f : TransferUnit → TransferUnit) : (s.mapTransfer f).bank = s.bank := rfl
@[simp] theorem State.mapTransfer_transfer (s : State) (f : TransferUnit → TransferUnit) :
    (s.mapTransfer f).transfer = f s.transfer := rfl
@[simp] theorem State.mapTransfer_protect (s : State) (f : TransferUnit → TransferUnit) :
    (s.mapTransfer f).protect = s.protect := rfl
@[simp] theorem State.mapTransfer_port (s : State) (f : TransferUnit → TransferUnit) : (s.mapTransfer f).port = s.port := rfl
@[simp] theorem State.mapTransfer_store (s : State) (f : TransferUnit → TransferUnit) : (s.mapTransfer f).store = s.store := rfl
@[simp] theorem State.mapTransfer_start (s : State) (f : TransferUnit → TransferUnit) : (s.mapTransfer f).start = s.start := rfl
@[simp] theorem State.mapTransfer_pending (s : State) (f : TransferUnit → TransferUnit) :
    (s.mapTransfer f).pending = s.pending := rfl

@[simp] theorem State.mapTests_powered (s : State) (f : TestDispatcher → TestDispatcher) :
    (s.mapTests f).powered = s.powered := rfl
@[simp] theorem State.mapTests_now (s : State) (f : TestDispatcher → TestDispatcher) : (s.mapTests f).now = s.now := rfl
@[simp] theorem State.mapTests_lines (s : State) (f : TestDispatcher → TestDispatcher) : (s.mapTests f).lines = s.lines := rfl
@[simp] theorem State.mapTests_berths (s : State) (f : TestDispatcher → TestDispatcher) :
    (s.mapTests f).berths = s.berths := rfl
@[simp] theorem State.mapTests_channels (s : State) (f : TestDispatcher → TestDispatcher) :
    (s.mapTests f).channels = s.channels := rfl
@[simp] theorem State.mapTests_tests (s : State) (f : TestDispatcher → TestDispatcher) : (s.mapTests f).tests = f s.tests := rfl
@[simp] theorem State.mapTests_budget (s : State) (f : TestDispatcher → TestDispatcher) :
    (s.mapTests f).budget = s.budget := rfl
@[simp] theorem State.mapTests_bank (s : State) (f : TestDispatcher → TestDispatcher) : (s.mapTests f).bank = s.bank := rfl
@[simp] theorem State.mapTests_transfer (s : State) (f : TestDispatcher → TestDispatcher) :
    (s.mapTests f).transfer = s.transfer := rfl
@[simp] theorem State.mapTests_protect (s : State) (f : TestDispatcher → TestDispatcher) :
    (s.mapTests f).protect = s.protect := rfl
@[simp] theorem State.mapTests_port (s : State) (f : TestDispatcher → TestDispatcher) : (s.mapTests f).port = s.port := rfl
@[simp] theorem State.mapTests_store (s : State) (f : TestDispatcher → TestDispatcher) : (s.mapTests f).store = s.store := rfl
@[simp] theorem State.mapTests_start (s : State) (f : TestDispatcher → TestDispatcher) : (s.mapTests f).start = s.start := rfl
@[simp] theorem State.mapTests_pending (s : State) (f : TestDispatcher → TestDispatcher) :
    (s.mapTests f).pending = s.pending := rfl

@[simp] theorem State.mapPort_powered (s : State) (f : SupervisoryPort → SupervisoryPort) :
    (s.mapPort f).powered = s.powered := rfl
@[simp] theorem State.mapPort_now (s : State) (f : SupervisoryPort → SupervisoryPort) : (s.mapPort f).now = s.now := rfl
@[simp] theorem State.mapPort_lines (s : State) (f : SupervisoryPort → SupervisoryPort) : (s.mapPort f).lines = s.lines := rfl
@[simp] theorem State.mapPort_berths (s : State) (f : SupervisoryPort → SupervisoryPort) :
    (s.mapPort f).berths = s.berths := rfl
@[simp] theorem State.mapPort_channels (s : State) (f : SupervisoryPort → SupervisoryPort) :
    (s.mapPort f).channels = s.channels := rfl
@[simp] theorem State.mapPort_tests (s : State) (f : SupervisoryPort → SupervisoryPort) : (s.mapPort f).tests = s.tests := rfl
@[simp] theorem State.mapPort_budget (s : State) (f : SupervisoryPort → SupervisoryPort) :
    (s.mapPort f).budget = s.budget := rfl
@[simp] theorem State.mapPort_bank (s : State) (f : SupervisoryPort → SupervisoryPort) : (s.mapPort f).bank = s.bank := rfl
@[simp] theorem State.mapPort_transfer (s : State) (f : SupervisoryPort → SupervisoryPort) :
    (s.mapPort f).transfer = s.transfer := rfl
@[simp] theorem State.mapPort_protect (s : State) (f : SupervisoryPort → SupervisoryPort) :
    (s.mapPort f).protect = s.protect := rfl
@[simp] theorem State.mapPort_port (s : State) (f : SupervisoryPort → SupervisoryPort) : (s.mapPort f).port = f s.port := rfl
@[simp] theorem State.mapPort_store (s : State) (f : SupervisoryPort → SupervisoryPort) : (s.mapPort f).store = s.store := rfl
@[simp] theorem State.mapPort_start (s : State) (f : SupervisoryPort → SupervisoryPort) : (s.mapPort f).start = s.start := rfl
@[simp] theorem State.mapPort_pending (s : State) (f : SupervisoryPort → SupervisoryPort) :
    (s.mapPort f).pending = s.pending := rfl

@[simp] theorem State.mapStore_powered (s : State) (f : SettingsStore → SettingsStore) :
    (s.mapStore f).powered = s.powered := rfl
@[simp] theorem State.mapStore_now (s : State) (f : SettingsStore → SettingsStore) : (s.mapStore f).now = s.now := rfl
@[simp] theorem State.mapStore_lines (s : State) (f : SettingsStore → SettingsStore) : (s.mapStore f).lines = s.lines := rfl
@[simp] theorem State.mapStore_berths (s : State) (f : SettingsStore → SettingsStore) : (s.mapStore f).berths = s.berths := rfl
@[simp] theorem State.mapStore_channels (s : State) (f : SettingsStore → SettingsStore) :
    (s.mapStore f).channels = s.channels := rfl
@[simp] theorem State.mapStore_tests (s : State) (f : SettingsStore → SettingsStore) : (s.mapStore f).tests = s.tests := rfl
@[simp] theorem State.mapStore_budget (s : State) (f : SettingsStore → SettingsStore) : (s.mapStore f).budget = s.budget := rfl
@[simp] theorem State.mapStore_bank (s : State) (f : SettingsStore → SettingsStore) : (s.mapStore f).bank = s.bank := rfl
@[simp] theorem State.mapStore_transfer (s : State) (f : SettingsStore → SettingsStore) :
    (s.mapStore f).transfer = s.transfer := rfl
@[simp] theorem State.mapStore_protect (s : State) (f : SettingsStore → SettingsStore) :
    (s.mapStore f).protect = s.protect := rfl
@[simp] theorem State.mapStore_port (s : State) (f : SettingsStore → SettingsStore) : (s.mapStore f).port = s.port := rfl
@[simp] theorem State.mapStore_store (s : State) (f : SettingsStore → SettingsStore) : (s.mapStore f).store = f s.store := rfl
@[simp] theorem State.mapStore_start (s : State) (f : SettingsStore → SettingsStore) : (s.mapStore f).start = s.start := rfl
@[simp] theorem State.mapStore_pending (s : State) (f : SettingsStore → SettingsStore) :
    (s.mapStore f).pending = s.pending := rfl

@[simp] theorem State.setUnit_powered (s : State) (u : TestUnit) (r : UnitRec) : (s.setUnit u r).powered = s.powered := by cases u <;> rfl
@[simp] theorem State.setUnit_now (s : State) (u : TestUnit) (r : UnitRec) : (s.setUnit u r).now = s.now := by cases u <;> rfl
@[simp] theorem State.setUnit_lines (s : State) (u : TestUnit) (r : UnitRec) : (s.setUnit u r).lines = s.lines := by cases u <;> rfl
@[simp] theorem State.setUnit_berths (s : State) (u : TestUnit) (r : UnitRec) : (s.setUnit u r).berths = s.berths := by cases u <;> rfl
@[simp] theorem State.setUnit_channels (s : State) (u : TestUnit) (r : UnitRec) : (s.setUnit u r).channels = s.channels := by cases u <;> rfl
@[simp] theorem State.setUnit_budget (s : State) (u : TestUnit) (r : UnitRec) : (s.setUnit u r).budget = s.budget := by cases u <;> rfl
@[simp] theorem State.setUnit_bank (s : State) (u : TestUnit) (r : UnitRec) : (s.setUnit u r).bank = s.bank := by cases u <;> rfl
@[simp] theorem State.setUnit_transfer (s : State) (u : TestUnit) (r : UnitRec) : (s.setUnit u r).transfer = s.transfer := by cases u <;> rfl
@[simp] theorem State.setUnit_protect (s : State) (u : TestUnit) (r : UnitRec) : (s.setUnit u r).protect = s.protect := by cases u <;> rfl
@[simp] theorem State.setUnit_port (s : State) (u : TestUnit) (r : UnitRec) : (s.setUnit u r).port = s.port := by cases u <;> rfl
@[simp] theorem State.setUnit_store (s : State) (u : TestUnit) (r : UnitRec) : (s.setUnit u r).store = s.store := by cases u <;> rfl
@[simp] theorem State.setUnit_start (s : State) (u : TestUnit) (r : UnitRec) : (s.setUnit u r).start = s.start := by cases u <;> rfl
@[simp] theorem State.setUnit_pending (s : State) (u : TestUnit) (r : UnitRec) : (s.setUnit u r).pending = s.pending := by cases u <;> rfl

/-! ## One berth after an update -/

@[simp] theorem State.mapBu_bu_same (s : State) (b : Berth) (f : BerthUnit → BerthUnit) : (s.mapBu b f).bu b = f (s.bu b) := by
  simp only [State.bu, State.mapBu_berths, PerBerth.get_set_same]

theorem State.mapBu_bu_other (s : State) (b c : Berth) (f : BerthUnit → BerthUnit) (h : c ≠ b) : (s.mapBu b f).bu c = s.bu c := by
  simp only [State.bu, State.mapBu_berths, PerBerth.get_set_other _ b c _ h]

@[simp] theorem State.mapCh_ch_same (s : State) (b : Berth) (f : Channel → Channel) : (s.mapCh b f).ch b = f (s.ch b) := by
  simp only [State.ch, State.mapCh_channels, PerBerth.get_set_same]

theorem State.mapCh_ch_other (s : State) (b c : Berth) (f : Channel → Channel) (h : c ≠ b) : (s.mapCh b f).ch c = s.ch c := by
  simp only [State.ch, State.mapCh_channels, PerBerth.get_set_other _ b c _ h]

@[simp] theorem State.mapPb_pb_same (s : State) (b : Berth) (f : ProtBerth → ProtBerth) : (s.mapPb b f).pb b = f (s.pb b) := by
  simp only [State.pb, State.mapPb_protect, PerBerth.get_set_same]

theorem State.mapPb_pb_other (s : State) (b c : Berth) (f : ProtBerth → ProtBerth) (h : c ≠ b) : (s.mapPb b f).pb c = s.pb c := by
  simp only [State.pb, State.mapPb_protect, PerBerth.get_set_other _ b c _ h]

@[simp] theorem State.mapLn_ln_same (s : State) (b : Berth) (f : BerthLines → BerthLines) : (s.mapLn b f).ln b = f (s.ln b) := by
  simp only [State.ln, State.mapLn_lines, PerBerth.get_set_same]

theorem State.mapLn_ln_other (s : State) (b c : Berth) (f : BerthLines → BerthLines) (h : c ≠ b) : (s.mapLn b f).ln c = s.ln c := by
  simp only [State.ln, State.mapLn_lines, PerBerth.get_set_other _ b c _ h]

@[simp] theorem State.setUnit_unit_same (s : State) (u : TestUnit) (r : UnitRec) : (s.setUnit u r).unit u = r := by cases u <;> rfl

theorem State.setUnit_unit_other (s : State) (u v : TestUnit) (r : UnitRec) (h : v ≠ u) : (s.setUnit u r).unit v = s.unit v := by
  cases u <;> cases v <;> first | rfl | exact absurd rfl h

@[simp] theorem State.setUnit_queue (s : State) (u : TestUnit) (r : UnitRec) : (s.setUnit u r).tests.queue = s.tests.queue := by
  cases u <;> rfl

@[simp] theorem State.setUnit_results (s : State) (u : TestUnit) (r : UnitRec) : (s.setUnit u r).tests.results = s.tests.results := by
  cases u <;> rfl

@[simp] theorem State.setUnit_lastGood (s : State) (u : TestUnit) (r : UnitRec) :
    (s.setUnit u r).tests.lastGood = s.tests.lastGood := by cases u <;> rfl

/-! ## What an update leaves of the readings of another part -/

@[simp] theorem State.mapBu_ch (s : State) (b : Berth) (f : BerthUnit → BerthUnit) (c : Berth) :
    (s.mapBu b f).ch c = s.ch c := rfl
@[simp] theorem State.mapBu_pb (s : State) (b : Berth) (f : BerthUnit → BerthUnit) (c : Berth) :
    (s.mapBu b f).pb c = s.pb c := rfl
@[simp] theorem State.mapBu_ln (s : State) (b : Berth) (f : BerthUnit → BerthUnit) (c : Berth) :
    (s.mapBu b f).ln c = s.ln c := rfl

@[simp] theorem State.mapTimers_ch (s : State) (b : Berth) (f : BerthTimers → BerthTimers) (c : Berth) :
    (s.mapTimers b f).ch c = s.ch c := rfl
@[simp] theorem State.mapTimers_pb (s : State) (b : Berth) (f : BerthTimers → BerthTimers) (c : Berth) :
    (s.mapTimers b f).pb c = s.pb c := rfl
@[simp] theorem State.mapTimers_ln (s : State) (b : Berth) (f : BerthTimers → BerthTimers) (c : Berth) :
    (s.mapTimers b f).ln c = s.ln c := rfl

@[simp] theorem State.mapCh_bu (s : State) (b : Berth) (f : Channel → Channel) (c : Berth) : (s.mapCh b f).bu c = s.bu c := rfl
@[simp] theorem State.mapCh_pb (s : State) (b : Berth) (f : Channel → Channel) (c : Berth) : (s.mapCh b f).pb c = s.pb c := rfl
@[simp] theorem State.mapCh_ln (s : State) (b : Berth) (f : Channel → Channel) (c : Berth) : (s.mapCh b f).ln c = s.ln c := rfl

@[simp] theorem State.mapPb_bu (s : State) (b : Berth) (f : ProtBerth → ProtBerth) (c : Berth) :
    (s.mapPb b f).bu c = s.bu c := rfl
@[simp] theorem State.mapPb_ch (s : State) (b : Berth) (f : ProtBerth → ProtBerth) (c : Berth) :
    (s.mapPb b f).ch c = s.ch c := rfl
@[simp] theorem State.mapPb_ln (s : State) (b : Berth) (f : ProtBerth → ProtBerth) (c : Berth) :
    (s.mapPb b f).ln c = s.ln c := rfl

@[simp] theorem State.mapLn_bu (s : State) (b : Berth) (f : BerthLines → BerthLines) (c : Berth) :
    (s.mapLn b f).bu c = s.bu c := rfl
@[simp] theorem State.mapLn_ch (s : State) (b : Berth) (f : BerthLines → BerthLines) (c : Berth) :
    (s.mapLn b f).ch c = s.ch c := rfl
@[simp] theorem State.mapLn_pb (s : State) (b : Berth) (f : BerthLines → BerthLines) (c : Berth) :
    (s.mapLn b f).pb c = s.pb c := rfl

@[simp] theorem State.mapBudget_bu (s : State) (f : FeederBudget → FeederBudget) (c : Berth) :
    (s.mapBudget f).bu c = s.bu c := rfl
@[simp] theorem State.mapBudget_ch (s : State) (f : FeederBudget → FeederBudget) (c : Berth) :
    (s.mapBudget f).ch c = s.ch c := rfl
@[simp] theorem State.mapBudget_pb (s : State) (f : FeederBudget → FeederBudget) (c : Berth) :
    (s.mapBudget f).pb c = s.pb c := rfl
@[simp] theorem State.mapBudget_ln (s : State) (f : FeederBudget → FeederBudget) (c : Berth) :
    (s.mapBudget f).ln c = s.ln c := rfl

@[simp] theorem State.mapBank_bu (s : State) (f : ConverterBank → ConverterBank) (c : Berth) :
    (s.mapBank f).bu c = s.bu c := rfl
@[simp] theorem State.mapBank_ch (s : State) (f : ConverterBank → ConverterBank) (c : Berth) :
    (s.mapBank f).ch c = s.ch c := rfl
@[simp] theorem State.mapBank_pb (s : State) (f : ConverterBank → ConverterBank) (c : Berth) :
    (s.mapBank f).pb c = s.pb c := rfl
@[simp] theorem State.mapBank_ln (s : State) (f : ConverterBank → ConverterBank) (c : Berth) :
    (s.mapBank f).ln c = s.ln c := rfl

@[simp] theorem State.mapModule_bu (s : State) (m : Module) (f : ModuleRec → ModuleRec) (c : Berth) :
    (s.mapModule m f).bu c = s.bu c := rfl
@[simp] theorem State.mapModule_ch (s : State) (m : Module) (f : ModuleRec → ModuleRec) (c : Berth) :
    (s.mapModule m f).ch c = s.ch c := rfl
@[simp] theorem State.mapModule_pb (s : State) (m : Module) (f : ModuleRec → ModuleRec) (c : Berth) :
    (s.mapModule m f).pb c = s.pb c := rfl
@[simp] theorem State.mapModule_ln (s : State) (m : Module) (f : ModuleRec → ModuleRec) (c : Berth) :
    (s.mapModule m f).ln c = s.ln c := rfl

@[simp] theorem State.mapTransfer_bu (s : State) (f : TransferUnit → TransferUnit) (c : Berth) :
    (s.mapTransfer f).bu c = s.bu c := rfl
@[simp] theorem State.mapTransfer_ch (s : State) (f : TransferUnit → TransferUnit) (c : Berth) :
    (s.mapTransfer f).ch c = s.ch c := rfl
@[simp] theorem State.mapTransfer_pb (s : State) (f : TransferUnit → TransferUnit) (c : Berth) :
    (s.mapTransfer f).pb c = s.pb c := rfl
@[simp] theorem State.mapTransfer_ln (s : State) (f : TransferUnit → TransferUnit) (c : Berth) :
    (s.mapTransfer f).ln c = s.ln c := rfl

@[simp] theorem State.mapTests_bu (s : State) (f : TestDispatcher → TestDispatcher) (c : Berth) :
    (s.mapTests f).bu c = s.bu c := rfl
@[simp] theorem State.mapTests_ch (s : State) (f : TestDispatcher → TestDispatcher) (c : Berth) :
    (s.mapTests f).ch c = s.ch c := rfl
@[simp] theorem State.mapTests_pb (s : State) (f : TestDispatcher → TestDispatcher) (c : Berth) :
    (s.mapTests f).pb c = s.pb c := rfl
@[simp] theorem State.mapTests_ln (s : State) (f : TestDispatcher → TestDispatcher) (c : Berth) :
    (s.mapTests f).ln c = s.ln c := rfl

@[simp] theorem State.mapPort_bu (s : State) (f : SupervisoryPort → SupervisoryPort) (c : Berth) :
    (s.mapPort f).bu c = s.bu c := rfl
@[simp] theorem State.mapPort_ch (s : State) (f : SupervisoryPort → SupervisoryPort) (c : Berth) :
    (s.mapPort f).ch c = s.ch c := rfl
@[simp] theorem State.mapPort_pb (s : State) (f : SupervisoryPort → SupervisoryPort) (c : Berth) :
    (s.mapPort f).pb c = s.pb c := rfl
@[simp] theorem State.mapPort_ln (s : State) (f : SupervisoryPort → SupervisoryPort) (c : Berth) :
    (s.mapPort f).ln c = s.ln c := rfl

@[simp] theorem State.mapStore_bu (s : State) (f : SettingsStore → SettingsStore) (c : Berth) :
    (s.mapStore f).bu c = s.bu c := rfl
@[simp] theorem State.mapStore_ch (s : State) (f : SettingsStore → SettingsStore) (c : Berth) :
    (s.mapStore f).ch c = s.ch c := rfl
@[simp] theorem State.mapStore_pb (s : State) (f : SettingsStore → SettingsStore) (c : Berth) :
    (s.mapStore f).pb c = s.pb c := rfl
@[simp] theorem State.mapStore_ln (s : State) (f : SettingsStore → SettingsStore) (c : Berth) :
    (s.mapStore f).ln c = s.ln c := rfl

end Machine

end Sys2Proof
end

