-- ==== Sys2Proof/Laws/Frame.lean ====
section
/-! SUPPORT. What the shared operations never touch, said once for each: supply and clock, the wires, the start's course, the waiting
commands, the settings in force and the stored records, the good indexes, the holder lists and the curtail target. -/

namespace Sys2Proof.Machine

/-- The parts of the state that no shared operation of the berths, the budget, the bank or the permit changes. -/
def State.outside (s : State) :=
  (s.powered, s.now, s.lines, s.start, s.pending, s.store.inForce, s.store.storedSettings, s.store.storedHistory,
    s.store.storedTarget, s.tests.lastGood, s.protect.holdersA, s.protect.holdersB, s.budget.target)

/-- What two states with the same outside agree in. -/
theorem State.outside_fields {s t : State} (h : t.outside = s.outside) :
    t.powered = s.powered ∧ t.now = s.now ∧ t.lines = s.lines ∧ t.start = s.start ∧ t.pending = s.pending
      ∧ t.store.inForce = s.store.inForce ∧ t.store.storedSettings = s.store.storedSettings
      ∧ t.store.storedHistory = s.store.storedHistory ∧ t.store.storedTarget = s.store.storedTarget
      ∧ t.tests.lastGood = s.tests.lastGood ∧ t.protect.holdersA = s.protect.holdersA
      ∧ t.protect.holdersB = s.protect.holdersB ∧ t.budget.target = s.budget.target := by
  simpa only [State.outside, Prod.mk.injEq] using h

/-! ## The updates -/

@[simp] theorem State.mapBu_outside (s : State) (b : Berth) (f : BerthUnit → BerthUnit) : (s.mapBu b f).outside = s.outside := rfl

@[simp] theorem State.mapTimers_outside (s : State) (b : Berth) (f : BerthTimers → BerthTimers) :
    (s.mapTimers b f).outside = s.outside := rfl

@[simp] theorem State.mapCh_outside (s : State) (b : Berth) (f : Channel → Channel) : (s.mapCh b f).outside = s.outside := rfl

@[simp] theorem State.mapPb_outside (s : State) (b : Berth) (f : ProtBerth → ProtBerth) : (s.mapPb b f).outside = s.outside := rfl

@[simp] theorem State.mapBank_outside (s : State) (f : ConverterBank → ConverterBank) : (s.mapBank f).outside = s.outside := rfl

@[simp] theorem State.mapModule_outside (s : State) (m : Module) (f : ModuleRec → ModuleRec) :
    (s.mapModule m f).outside = s.outside := rfl

@[simp] theorem State.mapTransfer_outside (s : State) (f : TransferUnit → TransferUnit) : (s.mapTransfer f).outside = s.outside := rfl

@[simp] theorem State.mapPort_outside (s : State) (f : SupervisoryPort → SupervisoryPort) : (s.mapPort f).outside = s.outside := rfl

@[simp] theorem State.setUnit_outside (s : State) (u : TestUnit) (r : UnitRec) : (s.setUnit u r).outside = s.outside := by
  cases u <;> rfl

/-- An update of the budget that keeps the target keeps the outside. -/
@[simp] theorem State.mapBudget_outside (s : State) (f : FeederBudget → FeederBudget) (h : (f s.budget).target = s.budget.target) :
    (s.mapBudget f).outside = s.outside := by simp only [State.outside, State.mapBudget, h]

@[simp] theorem FeederBudget.join_target (f : FeederBudget) (b : Berth) (k : EntryKind) (sought minimum : Nat) :
    (f.join b k sought minimum).target = f.target := by
  simp only [FeederBudget.join, FeederBudget.renumberJoins]; split <;> rfl

/-- An update of the Dispatcher that keeps the good indexes keeps the outside. -/
@[simp] theorem State.mapTests_outside (s : State) (f : TestDispatcher → TestDispatcher) (h : (f s.tests).lastGood = s.tests.lastGood) :
    (s.mapTests f).outside = s.outside := by simp only [State.outside, State.mapTests, h]

/-- A fold of steps that each keep the outside keeps it. -/
theorem foldl_outside {α : Type} (f : State → α → State) (h : ∀ (s : State) (x : α), (f s x).outside = s.outside) :
    ∀ (l : List α) (s : State), (l.foldl f s).outside = s.outside
  | [], _ => rfl
  | x :: xs, s => (foldl_outside f h xs (f s x)).trans (h s x)

/-- An act at each berth that keeps the outside each time keeps it. -/
theorem eachBerth_outside (f : Berth → State → State) (h : ∀ (b : Berth) (s : State), (f b s).outside = s.outside) (s : State) :
    (eachBerth f s).outside = s.outside := by simp only [eachBerth, h]

/-- A choice between two states with the same outside. -/
@[simp] theorem ite_outside (p : Prop) [Decidable p] (s t : State) :
    (if p then s else t).outside = if p then s.outside else t.outside := apply_ite ..

/-! ## Shared operations -/

@[simp] theorem State.post_outside (s : State) (n : Notice) : (s.post n).outside = s.outside := by
  simp [State.post]

@[simp] theorem State.formReply_outside (s : State) (r : ReplyFrame) : (s.formReply r).outside = s.outside := by
  simp [State.formReply]

@[simp] theorem State.send_outside (s : State) (b : Berth) (m : QuayMsg) : (s.send b m).outside = s.outside := by
  simp [State.send]

@[simp] theorem State.sendGrant_outside (s : State) (b : Berth) : (s.sendGrant b).outside = s.outside := by
  simp [State.sendGrant]

@[simp] theorem State.sendGrantZero_outside (s : State) (b : Berth) : (s.sendGrantZero b).outside = s.outside := by
  simp [State.sendGrantZero]

@[simp] theorem State.sendCall_outside (s : State) (b : Berth) (resume : Bool) : (s.sendCall b resume).outside = s.outside := by
  simp [State.sendCall]

@[simp] theorem State.handOver_outside (s : State) (w : StoreWrite) : (s.handOver w).outside = s.outside := by
  unfold State.handOver; split <;> rfl

@[simp] theorem State.handHistory_outside (s : State) : (s.handHistory).outside = s.outside := by
  simp [State.handHistory]

@[simp] theorem State.takeState_outside (s : State) (b : Berth) (st : BState) : (s.takeState b st).outside = s.outside := by
  simp [State.takeState]

@[simp] theorem State.setState_outside (s : State) (b : Berth) (st : BState) : (s.setState b st).outside = s.outside := by
  unfold State.setState; (repeat' split) <;> simp

@[simp] theorem State.owe_outside (s : State) (n : Notice) : (s.owe n).outside = s.outside := rfl

@[simp] theorem State.payNotices_outside (s before : State) : (s.payNotices before).outside = s.outside := by
  simp [State.payNotices, foldl_outside State.post State.post_outside]

@[simp] theorem State.startWanted_outside (s before : State) : (s.startWanted before).outside = s.outside := rfl

@[simp] theorem State.endEvent_outside (s before : State) : (s.endEvent before).outside = s.outside := by
  simp [State.endEvent]

@[simp] theorem State.openBreaker_outside (s : State) (b : Berth) : (s.openBreaker b).outside = s.outside := by
  simp [State.openBreaker]

@[simp] theorem State.withdrawClose_outside (s : State) (b : Berth) : (s.withdrawClose b).outside = s.outside := by
  unfold State.withdrawClose; split <;> simp

@[simp] theorem State.superviseOpening_outside (s : State) (b : Berth) : (s.superviseOpening b).outside = s.outside := by
  simp [State.superviseOpening]

@[simp] theorem State.moveSwitch_outside (s : State) (b : Berth) (p : SwitchPos) : (s.moveSwitch b p).outside = s.outside := by
  simp [State.moveSwitch]

@[simp] theorem State.commandSwitch_outside (s : State) (b : Berth) (p : SwitchPos) :
    (s.commandSwitch b p).outside = s.outside := by
  simp [State.commandSwitch]

@[simp] theorem State.endEarthing_outside (s : State) (b : Berth) : (s.endEarthing b).outside = s.outside := by
  simp [State.endEarthing]

@[simp] theorem State.checkEarthing_outside (s : State) (b : Berth) : (s.checkEarthing b).outside = s.outside := by
  simp [State.checkEarthing]

@[simp] theorem State.startEarthing_outside (s : State) (b : Berth) : (s.startEarthing b).outside = s.outside := by
  simp [State.startEarthing]

@[simp] theorem State.checkQuiet_outside (s : State) (b : Berth) : (s.checkQuiet b).outside = s.outside := by
  simp [State.checkQuiet]

@[simp] theorem State.beginQuiet_outside (s : State) (b : Berth) : (s.beginQuiet b).outside = s.outside := by
  simp [State.beginQuiet]

@[simp] theorem State.awaitShip_outside (s : State) (b : Berth) : (s.awaitShip b).outside = s.outside := by
  simp [State.awaitShip]

/-! ## The permit -/

@[simp] theorem State.begin_outside (s : State) (e : LineEntry) : (s.begin e).outside = s.outside := by
  unfold State.begin; split <;> simp

@[simp] theorem State.givePermit_outside (s : State) : (s.givePermit).outside = s.outside := by
  unfold State.givePermit; split <;> simp

@[simp] theorem State.requestPermit_outside (s : State) (b : Berth) (cls : LineClass) (head : Bool) :
    (s.requestPermit b cls head).outside = s.outside := by
  simp [State.requestPermit]

@[simp] theorem State.releasePermit_outside (s : State) (b : Berth) : (s.releasePermit b).outside = s.outside := by
  simp [State.releasePermit]

/-! ## The bank -/

@[simp] theorem State.postModule_outside (s : State) (m : Module) : (s.postModule m).outside = s.outside := by
  simp [State.postModule]

@[simp] theorem State.beginProof_outside (s : State) : (s.beginProof).outside = s.outside := by
  unfold State.beginProof; split
  · dsimp only; split <;> simp
  · rfl

@[simp] theorem reportRunning_outside (b : Berth) (s : State) : (reportRunning b s).outside = s.outside := by
  simp [reportRunning]

@[simp] theorem State.enterBank_outside (s : State) (st : BankState) : (s.enterBank st).outside = s.outside := by
  simp [State.enterBank, eachBerth_outside reportRunning reportRunning_outside]

@[simp] theorem State.recover_outside (s : State) : (s.recover).outside = s.outside := by
  unfold State.recover; split <;> simp

@[simp] theorem State.stopBank_outside (s : State) : (s.stopBank).outside = s.outside := by
  simp [State.stopBank]

@[simp] theorem State.updateDemand_outside (s : State) : (s.updateDemand).outside = s.outside := by
  simp only [State.updateDemand]; (repeat' split) <;> simp

/-! ## The budget -/

@[simp] theorem State.startScan_outside (s : State) : s.startScan.outside = s.outside := by
  rfl

@[simp] theorem State.boundScans_outside (s : State) : s.boundScans.outside = s.outside := by
  rfl

@[simp] theorem State.joinEntry_outside (s : State) (b : Berth) (k : EntryKind) (sought minimum : Nat) :
    (s.joinEntry b k sought minimum).outside = s.outside := by
  unfold State.joinEntry; split <;> simp

@[simp] theorem State.removeEntry_outside (s : State) (b : Berth) : (s.removeEntry b).outside = s.outside := by
  simp [State.removeEntry]

@[simp] theorem State.updateEntry_outside (s : State) (b : Berth) (g : AdmEntry → AdmEntry) :
    (s.updateEntry b g).outside = s.outside := by
  simp [State.updateEntry]

@[simp] theorem State.requestAdmission_outside (s : State) (b : Berth) : (s.requestAdmission b).outside = s.outside := by
  simp [State.requestAdmission]

@[simp] theorem State.settleTopup_outside (s : State) (b : Berth) : (s.settleTopup b).outside = s.outside := by
  unfold State.settleTopup; split <;> simp

@[simp] theorem State.writeGrant_outside (s : State) (b : Berth) (g : Nat) (seq : Option Nat) :
    (s.writeGrant b g seq).outside = s.outside := by
  simp [State.writeGrant]

@[simp] theorem State.oweGrant_outside (s : State) (b : Berth) (old : Nat × Nat × Option Nat) :
    (s.oweGrant b old).outside = s.outside := by
  simp [State.oweGrant]

@[simp] theorem State.regrant_outside (s : State) (b : Berth) (g : Nat) (seq : Option Nat) :
    (s.regrant b g seq).outside = s.outside := by
  simp [State.regrant]

@[simp] theorem State.renumberSeqs_outside (s : State) : (s.renumberSeqs).outside = s.outside := by
  simp only [State.renumberSeqs]
  refine (eachBerth_outside _ (fun b t => ?_) _).trans ?_
  · simp
  · rw [State.mapBudget_outside _ _ rfl]
    refine eachBerth_outside _ (fun b t => ?_) _
    split <;> simp

@[simp] theorem State.takeSeq_outside (s : State) : (s.takeSeq).outside = s.outside := by
  simp [State.takeSeq]

@[simp] theorem State.informShip_outside (s : State) (b : Berth) (m : Nat → QuayMsg) :
    (s.informShip b m).outside = s.outside := by
  unfold State.informShip; split <;> simp

@[simp] theorem State.reduceGrant_outside (s : State) (b : Berth) (g : Nat) : (s.reduceGrant b g).outside = s.outside := by
  simp [State.reduceGrant]

@[simp] theorem State.raiseGrant_outside (s : State) (b : Berth) (g : Nat) : (s.raiseGrant b g).outside = s.outside := by
  simp [State.raiseGrant]

@[simp] theorem reduceDraw_outside (total : Nat) (s : State) (b : Berth) : (reduceDraw total s b).outside = s.outside := by
  simp [reduceDraw]

@[simp] theorem State.reduceTo_outside (s : State) (total : Nat) : (s.reduceTo total).outside = s.outside := by
  simp [State.reduceTo, foldl_outside _ (reduceDraw_outside total)]

@[simp] theorem reduceConverter_outside (s : State) (b : Berth) : (reduceConverter s b).outside = s.outside := by
  simp [reduceConverter]

@[simp] theorem State.reduceF60_outside (s : State) : (s.reduceF60).outside = s.outside := by
  exact foldl_outside _ reduceConverter_outside _ s

@[simp] theorem State.lowerWorking_outside (s : State) (w : Nat) : (s.lowerWorking w).outside = s.outside := by
  simp [State.lowerWorking]

@[simp] theorem State.stepDown_outside (s : State) : (s.stepDown).outside = s.outside := by
  unfold State.stepDown; split <;> simp

@[simp] theorem State.returnGrant_outside (s : State) (b : Berth) : (s.returnGrant b).outside = s.outside := by
  simp [State.returnGrant]

@[simp] theorem State.persistTarget_outside (s : State) (t : Nat) (mark : TargetMark) :
    (s.persistTarget t mark).outside = s.outside := by
  unfold State.persistTarget; split <;> simp

/-! ## The Test Dispatcher -/

@[simp] theorem State.beginTest_outside (s : State) (u : TestUnit) (b : Berth) : (s.beginTest u b).outside = s.outside := by
  simp [State.beginTest]

@[simp] theorem State.assignTo_outside (s : State) (u : TestUnit) : (s.assignTo u).outside = s.outside := by
  unfold State.assignTo; split <;> simp

@[simp] theorem State.assign_outside (s : State) : (s.assign).outside = s.outside := by
  simp [State.assign]

@[simp] theorem State.requestTest_outside (s : State) (b : Berth) : (s.requestTest b).outside = s.outside := by
  simp [State.requestTest]

@[simp] theorem State.endTest_outside (s : State) (u : TestUnit) (b : Berth) (v : Verdict) :
    (s.endTest u b v).outside = s.outside := by
  simp [State.endTest]

@[simp] theorem State.abortTest_outside (s : State) (u : TestUnit) (b : Berth) : (s.abortTest u b).outside = s.outside := by
  simp [State.abortTest]

@[simp] theorem State.leaveTests_outside (s : State) (b : Berth) : (s.leaveTests b).outside = s.outside := by
  unfold State.leaveTests; split <;> simp

@[simp] theorem State.beginAttempt_outside (s : State) (u : TestUnit) (b : Berth) :
    (s.beginAttempt u b).outside = s.outside := by
  simp [State.beginAttempt]

@[simp] theorem State.beginOpening_outside (s : State) (u : TestUnit) (b : Berth) :
    (s.beginOpening u b).outside = s.outside := by
  simp [State.beginOpening]

@[simp] theorem State.beginClosing_outside (s : State) (u : TestUnit) (v : Verdict) :
    (s.beginClosing u v).outside = s.outside := by
  simp [State.beginClosing]

/-! ## The Berth Sequence -/

@[simp] theorem State.standDown_outside (s : State) (b : Berth) : (s.standDown b).outside = s.outside := by
  simp [State.standDown]

@[simp] theorem State.leaveVacant_outside (s : State) (b : Berth) : (s.leaveVacant b).outside = s.outside := by
  simp [State.leaveVacant]

@[simp] theorem State.enterVacant_outside (s : State) (b : Berth) : (s.enterVacant b).outside = s.outside := by
  simp [State.enterVacant]

@[simp] theorem State.actOnDetach_outside (s : State) (b : Berth) : (s.actOnDetach b).outside = s.outside := by
  unfold State.actOnDetach; (repeat' split) <;> simp

@[simp] theorem State.recordCause_outside (s : State) (b : Berth) (c : FaultCause) :
    (s.recordCause b c).outside = s.outside := by
  simp [State.recordCause]

@[simp] theorem State.enterFaulted_outside (s : State) (b : Berth) (c : FaultCause) :
    (s.enterFaulted b c).outside = s.outside := by
  simp [State.enterFaulted]

@[simp] theorem State.fault_outside (s : State) (b : Berth) (c : FaultCause) : (s.fault b c).outside = s.outside := by
  simp [State.fault]

@[simp] theorem State.faultOnce_outside (s : State) (b : Berth) (c : FaultCause) : (s.faultOnce b c).outside = s.outside := by
  simp [State.faultOnce]

@[simp] theorem State.faultEquipment_outside (s : State) (b : Berth) (c : FaultCause) :
    (s.faultEquipment b c).outside = s.outside := by
  simp [State.faultEquipment]

@[simp] theorem State.enterReleased_outside (s : State) (b : Berth) :
    (s.enterReleased b).outside = s.outside := by
  simp [State.enterReleased]

@[simp] theorem State.releaseBerth_outside (s : State) (b : Berth) : (s.releaseBerth b).outside = s.outside := by
  simp [State.releaseBerth]

@[simp] theorem State.enterTest_outside (s : State) (b : Berth) : (s.enterTest b).outside = s.outside := by
  simp [State.enterTest]

@[simp] theorem State.takeVerdict_outside (s : State) (b : Berth) (v : Verdict) : (s.takeVerdict b v).outside = s.outside := by
  unfold State.takeVerdict; (repeat' split) <;> simp

@[simp] theorem State.deliver_outside (s : State) (u : TestUnit) (b : Berth) (v : Verdict) :
    (s.deliver u b v).outside = s.outside := by
  simp [State.deliver]

@[simp] theorem State.feedTest_outside (s : State) (b : Berth) (u : TestUnit) : (s.feedTest b u).outside = s.outside := by
  unfold State.feedTest; dsimp only; (repeat' split) <;> simp

@[simp] theorem State.failClosing_outside (s : State) (u : TestUnit) (b : Berth) (v : Verdict) (c : FaultCause) :
    (s.failClosing u b v c).outside = s.outside := by
  simp [State.failClosing]

@[simp] theorem State.endPreparing_outside (s : State) (b : Berth) : (s.endPreparing b).outside = s.outside := by
  simp [State.endPreparing]

@[simp] theorem State.confirmSwitch_outside (s : State) (b : Berth) : (s.confirmSwitch b).outside = s.outside := by
  unfold State.confirmSwitch; (repeat' split) <;> simp

@[simp] theorem State.feedPreparing_outside (s : State) (b : Berth) : (s.feedPreparing b).outside = s.outside := by
  simp [State.feedPreparing]

@[simp] theorem State.endSelectorStep_outside (s : State) (b : Berth) : (s.endSelectorStep b).outside = s.outside := by
  simp [State.endSelectorStep]

@[simp] theorem State.startSelectorStep_outside (s : State) (b : Berth) : (s.startSelectorStep b).outside = s.outside := by
  simp [State.startSelectorStep]

@[simp] theorem State.takeReady_outside (s : State) (b : Berth) : (s.takeReady b).outside = s.outside := by
  simp [State.takeReady]

@[simp] theorem State.withdrawReady_outside (s : State) (b : Berth) : (s.withdrawReady b).outside = s.outside := by
  simp [State.withdrawReady]

@[simp] theorem State.backToQueued_outside (s : State) (b : Berth) :
    (s.backToQueued b).outside = s.outside := by
  simp [State.backToQueued]

@[simp] theorem State.commandClose_outside (s : State) (b : Berth) : (s.commandClose b).outside = s.outside := by
  simp [State.commandClose]

@[simp] theorem State.closeBreaker_outside (s : State) (b : Berth) : (s.closeBreaker b).outside = s.outside := by
  unfold State.closeBreaker; (repeat' split) <;> simp only [State.fault_outside]
  split <;> simp

@[simp] theorem State.checkOpenClose_outside (s : State) (b : Berth) : (s.checkOpenClose b).outside = s.outside := by
  simp [State.checkOpenClose]

@[simp] theorem State.checkCable_outside (s : State) (b : Berth) : (s.checkCable b).outside = s.outside := by
  simp [State.checkCable]

@[simp] theorem State.orderTakeback_outside (s : State) (b : Berth) : (s.orderTakeback b).outside = s.outside := by
  simp [State.orderTakeback]

@[simp] theorem State.enterOnShore_outside (s : State) (b : Berth) (hold : Bool) :
    (s.enterOnShore b hold).outside = s.outside := by
  simp [State.enterOnShore]

@[simp] theorem State.checkThreshold_outside (s : State) (b : Berth) : (s.checkThreshold b).outside = s.outside := by
  simp [State.checkThreshold]

@[simp] theorem State.enterReturnParallel_outside (s : State) (b : Berth) : (s.enterReturnParallel b).outside = s.outside := by
  simp [State.enterReturnParallel]

@[simp] theorem State.enterReturn_outside (s : State) (b : Berth) (held : Nat) :
    (s.enterReturn b held).outside = s.outside := by
  simp [State.enterReturn]

@[simp] theorem State.startTakeBack_outside (s : State) (b : Berth) : (s.startTakeBack b).outside = s.outside := by
  simp [State.startTakeBack]

@[simp] theorem State.completeReturn_outside (s : State) (b : Berth) : (s.completeReturn b).outside = s.outside := by
  simp [State.completeReturn]

@[simp] theorem State.abandonSync_outside (s : State) (b : Berth) : (s.abandonSync b).outside = s.outside := by
  simp [State.abandonSync]

@[simp] theorem State.shedParallel_outside (s : State) (b : Berth) (held : Nat) :
    (s.shedParallel b held).outside = s.outside := by
  simp [State.shedParallel]

@[simp] theorem State.shedOnShore_outside (s : State) (b : Berth) (held : Nat) :
    (s.shedOnShore b held).outside = s.outside := by
  simp [State.shedOnShore]

@[simp] theorem State.actOnShed_outside (s : State) (b : Berth) (held : Nat) :
    (s.actOnShed b held).outside = s.outside := by
  unfold State.actOnShed; (repeat' split) <;> simp

@[simp] theorem State.shedOne_outside (s : State) (b : Berth) : (s.shedOne b).outside = s.outside := by
  simp [State.shedOne]

@[simp] theorem State.joinTopup_outside (s : State) (b : Berth) : (s.joinTopup b).outside = s.outside := by
  simp [State.joinTopup]

@[simp] theorem closeUnloaded_outside (b : Berth) (s : State) : (closeUnloaded b s).outside = s.outside := by
  simp [closeUnloaded]

@[simp] theorem closeLoaded_outside (before : State) (b : Berth) (s : State) : (closeLoaded before b s).outside = s.outside := by
  simp [closeLoaded]

@[simp] theorem State.closeRound_outside (s before : State) : (s.closeRound before).outside = s.outside := by
  unfold State.closeRound
  split <;> simp [eachBerth_outside (closeLoaded before) (closeLoaded_outside before),
    eachBerth_outside closeUnloaded closeUnloaded_outside]

/-! ## The scan -/

@[simp] theorem State.raisePassOver_outside (s : State) (bs : List Berth) : (s.raisePassOver bs).outside = s.outside := by
  simp [State.raisePassOver]

@[simp] theorem State.grantEntry_outside (s : State) (e : AdmEntry) (g : Nat) : (s.grantEntry e g).outside = s.outside := by
  simp [State.grantEntry]

theorem admitPart_outside (x : Freed) : ∀ (es : List AdmEntry) (missed : List Berth) (s : State),
    (admitPart x es missed s).outside = s.outside
  | [], _, _ => rfl
  | e :: es, missed, s => by
    rw [admitPart]
    split
    · exact admitPart_outside x es missed s
    · split
      · exact (admitPart_outside x es [] _).trans (by simp)
      · split
        · rfl
        · exact admitPart_outside x es _ s

@[simp] theorem topupTurn_outside (x : Freed) (s : State) (e : AdmEntry) : (topupTurn x s e).outside = s.outside := by
  simp [topupTurn]

@[simp] theorem State.scan_outside (s : State) (k : ScanStart) : (s.scan k).outside = s.outside := by
  simp only [State.scan]
  split
  · exact admitPart_outside _ _ _ s
  · exact (foldl_outside _ (topupTurn_outside _) _ _).trans (admitPart_outside _ _ _ s)

/-- A scan, whether it runs as a row of its own or within another event, grants and touches nothing else. -/
@[simp] theorem State.runScan_outside (s : State) (k : ScanStart) (waiting : List ScanStart) :
    (s.runScan k waiting).outside = s.outside := by
  simp [State.runScan]

@[simp] theorem State.scanWithin_outside (s : State) : s.scanWithin.outside = s.outside := by
  simp [State.scanWithin]

@[simp] theorem State.scanReported_outside (s : State) (old : ConverterBank) : (s.scanReported old).outside = s.outside := by
  simp [State.scanReported]

/-! ## Counted capacity -/

/-- The shed's turns keep the outside of the state they carry. -/
theorem foldl_shedTurn_outside : ∀ (l : List Berth) (acc : State × List Berth), (l.foldl shedTurn acc).1.outside = acc.1.outside
  | [], _ => rfl
  | b :: bs, acc => by
    rw [List.foldl_cons, foldl_shedTurn_outside bs]
    unfold shedTurn; split <;> simp

@[simp] theorem State.shed_outside (s : State) : (s.shed).outside = s.outside := by
  unfold State.shed
  refine (foldl_outside _ (fun t b => by split <;> simp) _ _).trans ?_
  exact (State.stepDown_outside _).trans (foldl_shedTurn_outside _ (s, []))

@[simp] theorem State.fitCapacity_outside (s : State) : (s.fitCapacity).outside = s.outside := by
  simp [State.fitCapacity]

@[simp] theorem State.takeFall_outside (s : State) (old : ConverterBank) : (s.takeFall old).outside = s.outside := by
  simp [State.takeFall]

@[simp] theorem State.recount_outside (s : State) : (s.recount).outside = s.outside := by
  simp [State.recount]

@[simp] theorem State.postModules_outside (s : State) (old : PerModule ModuleRec) :
    (s.postModules old).outside = s.outside := by
  exact foldl_outside _ State.postModule_outside _ s

@[simp] theorem State.reportModules_outside (s : State) (old : ConverterBank) : (s.reportModules old).outside = s.outside := by
  simp [State.reportModules]

@[simp] theorem State.handChanged_outside (s : State) (old : ConverterBank) (owed : Bool) :
    (s.handChanged old owed).outside = s.outside := by
  simp [State.handChanged]

@[simp] theorem State.commitModules_outside (s : State) (old : ConverterBank) (owed : Bool) :
    (s.commitModules old owed).outside = s.outside := by
  simp [State.commitModules]

@[simp] theorem State.touchSettle_outside (s : State) : (s.touchSettle).outside = s.outside := by
  simp [State.touchSettle]

@[simp] theorem State.changeModule_outside (s : State) (m : Module) (r : ModuleRec) :
    (s.changeModule m r).outside = s.outside := by
  simp [State.changeModule]

@[simp] theorem State.afterProof_outside (s : State) : (s.afterProof).outside = s.outside := by
  simp [State.afterProof]

@[simp] theorem State.endProof_outside (s : State) (m : Module) (r : ModuleRec) : (s.endProof m r).outside = s.outside := by
  simp [State.endProof]

@[simp] theorem State.failRestart_outside (s : State) (m : Module) : (s.failRestart m).outside = s.outside := by
  simp [State.failRestart]

end Sys2Proof.Machine
end

