-- ==== Sys2Proof/Laws/Port.lean ====
section
/-! SUPPORT. What posting a notice, forming a reply and giving a frame to a channel can do (R46, R199, R200). -/

namespace Sys2Proof.Machine

/-! ## The transmitter of the port -/

/-- All the transmitter's start can do (R199). -/
theorem SupervisoryPort.kick_cases (p : SupervisoryPort) :
    (p.sending.isSome = true ∧ p.kick = p)
      ∨ (∃ r rest, p.sending = none ∧ p.replies = r :: rest ∧ p.kick = { p with sending := some (.reply r), replies := rest })
      ∨ (∃ n rest, p.sending = none ∧ p.replies = [] ∧ p.notices = n :: rest
          ∧ p.kick = { p with sending := some (.notice n), notices := rest })
      ∨ (p.sending = none ∧ p.replies = [] ∧ p.notices = [] ∧ p.kick = p) := by
  rcases hs : p.sending with _ | f
  · rcases hr : p.replies with _ | ⟨r, rest⟩
    · rcases hn : p.notices with _ | ⟨n, rest⟩
      · exact .inr (.inr (.inr ⟨rfl, rfl, rfl, by simp [kick, hs, hr, hn]⟩))
      · exact .inr (.inr (.inl ⟨n, rest, rfl, rfl, rfl, by simp [kick, hs, hr, hn]⟩))
    · exact .inr (.inl ⟨r, rest, rfl, rfl, by simp [kick, hs, hr]⟩)
  · exact .inl ⟨rfl, by simp [kick, hs]⟩

@[simp] theorem SupervisoryPort.kick_slots (p : SupervisoryPort) : p.kick.slots = p.slots := by
  rcases p.kick_cases with h | ⟨_, _, h⟩ | ⟨_, _, h⟩ | h <;> simp [h]

@[simp] theorem SupervisoryPort.kick_counter (p : SupervisoryPort) : p.kick.counter = p.counter := by
  rcases p.kick_cases with h | ⟨_, _, h⟩ | ⟨_, _, h⟩ | h <;> simp [h]

@[simp] theorem SupervisoryPort.kick_prepared (p : SupervisoryPort) : p.kick.prepared = p.prepared := by
  rcases p.kick_cases with h | ⟨_, _, h⟩ | ⟨_, _, h⟩ | h <;> simp [h]

@[simp] theorem SupervisoryPort.kick_sequenceError (p : SupervisoryPort) : p.kick.sequenceError = p.sequenceError := by
  rcases p.kick_cases with h | ⟨_, _, h⟩ | ⟨_, _, h⟩ | h <;> simp [h]

@[simp] theorem SupervisoryPort.kick_overflow (p : SupervisoryPort) : p.kick.overflow = p.overflow := by
  rcases p.kick_cases with h | ⟨_, _, h⟩ | ⟨_, _, h⟩ | h <;> simp [h]

@[simp] theorem SupervisoryPort.kick_held (p : SupervisoryPort) : p.kick.held = p.held := by
  rcases p.kick_cases with h | ⟨_, _, h⟩ | ⟨_, _, h⟩ | h <;> simp [h]

theorem SupervisoryPort.kick_notices_length (p : SupervisoryPort) : p.kick.notices.length ≤ p.notices.length := by
  rcases p.kick_cases with h | ⟨_, _, h⟩ | ⟨_, _, h⟩ | h <;> simp [h]

/-- A reply that waited waits on or is being sent. -/
theorem SupervisoryPort.kick_reply (p : SupervisoryPort) (r : ReplyFrame) (h : r ∈ p.replies) :
    r ∈ p.kick.replies ∨ p.kick.sending = some (.reply r) := by
  rcases p.kick_cases with ⟨_, hk⟩ | ⟨x, rest, _, hr, hk⟩ | ⟨_, _, _, hr, _⟩ | ⟨_, hr, _⟩
  · exact .inl (by rw [hk]; exact h)
  · rw [hr] at h
    rcases List.mem_cons.1 h with rfl | h
    · exact .inr (by rw [hk])
    · exact .inl (by rw [hk]; exact h)
  · rw [hr] at h; cases h
  · rw [hr] at h; cases h

/-! ## Notices and replies -/

/-- All a notice's joining can do (R200). -/
theorem SupervisoryPort.enqueue_cases (p : SupervisoryPort) (n : Notice) :
    (32 ≤ p.notices.length ∧ p.enqueue n = { p with counter := (p.counter + 1) % 65536, overflow := true })
      ∨ (p.notices.length < 32
          ∧ p.enqueue n = { p with
              counter := (p.counter + 1) % 65536
              notices := p.notices ++ [{ number := (p.counter + 1) % 65536, notice := n }] }) := by
  by_cases h : 32 ≤ p.notices.length
  · exact .inl ⟨h, by simp [enqueue, Config.noticeQueueMax, h]⟩
  · exact .inr ⟨by omega, by simp [enqueue, Config.noticeQueueMax, h]⟩

/-- A post changes the port alone. -/
theorem State.post_eq (s : State) (n : Notice) : s.post n = { s with port := (s.port.enqueue n).kick } := rfl

/-- A formed reply changes the port alone. -/
theorem State.formReply_eq (s : State) (r : ReplyFrame) :
    s.formReply r = { s with port := { s.port with replies := s.port.replies ++ [r] }.kick } := rfl

/-- A post keeps the port's bounds (R194, R200). -/
theorem State.post_bounded (s : State) (n : Notice) (h : PortBounded s) : PortBounded (s.post n) := by
  have hk := (s.port.enqueue n).kick_notices_length
  simp only [PortBounded, State.post_eq, SupervisoryPort.kick_slots, SupervisoryPort.kick_counter] at h ⊢
  rcases s.port.enqueue_cases n with ⟨_, e⟩ | ⟨_, e⟩ <;> rw [e] at hk ⊢
  · exact ⟨h.1, hk.trans h.2.1, Nat.mod_lt _ (by omega)⟩
  · refine ⟨h.1, hk.trans ?_, Nat.mod_lt _ (by omega)⟩
    simp only [List.length_append, List.length_cons, List.length_nil]; omega

/-- Posts change the port alone. -/
theorem foldl_post_eq : ∀ (ns : List Notice) (s : State), ns.foldl State.post s = { s with port := (ns.foldl State.post s).port }
  | [], _ => rfl
  | n :: ns, s => foldl_post_eq ns (s.post n)

/-- Posts keep the port's bounds. -/
theorem foldl_post_bounded : ∀ (ns : List Notice) (s : State), PortBounded s → PortBounded (ns.foldl State.post s)
  | [], _, h => h
  | n :: ns, s, h => foldl_post_bounded ns (s.post n) (s.post_bounded n h)

/-- A formed reply keeps the port's bounds. -/
theorem State.formReply_bounded (s : State) (r : ReplyFrame) (h : PortBounded s) : PortBounded (s.formReply r) := by
  have hk := ({ s.port with replies := s.port.replies ++ [r] } : SupervisoryPort).kick_notices_length
  simp only [PortBounded, State.formReply_eq, SupervisoryPort.kick_slots, SupervisoryPort.kick_counter] at h ⊢
  exact ⟨h.1, hk.trans h.2.1, h.2.2⟩

/-- A formed reply waits or is being sent. -/
theorem State.formReply_replied (s : State) (tag : Byte) (i : Bool) (r : Reply) :
    Replied (s.formReply { tag := tag, immediate := i, reply := r }) tag i r :=
  SupervisoryPort.kick_reply _ _ (List.mem_append_right _ (List.mem_singleton.2 rfl))

/-! ## Quay transmit queues -/

/-- All the start of a channel's transmission can do (R42, R46). -/
theorem Channel.kick_cases (c : Channel) :
    (c.sending.isSome = true ∧ c.kick = c) ∨ (c.sending = none ∧ c.queue = [] ∧ c.kick = c)
      ∨ ∃ m rest, c.sending = none ∧ c.queue = m :: rest ∧ c.kick = { c with sending := some m, queue := rest } := by
  rcases hs : c.sending with _ | f
  · rcases hq : c.queue with _ | ⟨m, rest⟩
    · exact .inr (.inl ⟨rfl, rfl, by simp [kick, hs, hq]⟩)
    · exact .inr (.inr ⟨m, rest, rfl, rfl, by simp [kick, hs, hq]⟩)
  · exact .inl ⟨rfl, by simp [kick, hs]⟩

/-- What a frame replaces is of its own kind. -/
theorem QuayMsg.replaces_kind {m q : QuayMsg} (h : m.replaces q = true) :
    q.isShoreState = m.isShoreState ∧ q.isMatch = m.isMatch := by
  cases m <;> cases q <;> first | exact ⟨rfl, rfl⟩ | exact absurd h Bool.false_ne_true

/-- A frame that joins is in the queue (R46). -/
theorem joinQueue_mem (m : QuayMsg) (q : List QuayMsg) : m ∈ joinQueue m q := by
  unfold joinQueue
  split
  · obtain ⟨x, hx, hr⟩ := List.any_eq_true.1 ‹_›
    exact List.mem_map.2 ⟨x, hx, if_pos hr⟩
  · exact List.mem_append_right _ (List.mem_singleton.2 rfl)

/-- The queue stays within 16 frames (R46). -/
theorem joinQueue_length (m : QuayMsg) (q : List QuayMsg) (h : q.length ≤ 16) : (joinQueue m q).length ≤ 16 := by
  unfold joinQueue Config.quayQueueMax
  split
  · simpa using h
  · split <;> simp <;> omega

/-- A given frame waits or is being sent. -/
theorem State.send_given (s : State) (b : Berth) (m : QuayMsg) : Given (s.send b m) b m := by
  have hm := joinQueue_mem m (s.ch b).queue
  simp only [Given, State.send, State.mapCh_ch_same]
  rcases ({ s.ch b with queue := joinQueue m (s.ch b).queue } : Channel).kick_cases with
    ⟨_, e⟩ | ⟨_, hq, _⟩ | ⟨x, rest, _, hq, e⟩
  · exact .inl (by rw [e]; exact hm)
  · simp only at hq; rw [hq] at hm; cases hm
  · simp only at hq; rw [hq] at hm; rw [e]
    rcases List.mem_cons.1 hm with rfl | h
    · exact .inr rfl
    · exact .inl h

/-- A given frame changes one channel's queue and transmitter alone. -/
theorem State.send_eq (s : State) (b : Berth) (m : QuayMsg) :
    s.send b m = { s with channels := s.channels.set b ({ s.ch b with queue := joinQueue m (s.ch b).queue } : Channel).kick } := rfl

end Sys2Proof.Machine
end

