-- ==== Sys2Proof/Laws/Ops.lean ====
section
/-! SUPPORT. What each shared operation of the berths, the permit, the tests, the budget and the store can do, said once for each. -/

namespace Sys2Proof.Machine

/-! ## Events and timers -/

/-- What an event owes changes the port alone (R3). -/
theorem State.payNotices_eq (s before : State) : s.payNotices before = { s with port := (s.payNotices before).port } :=
  foldl_post_eq _ _

/-- An event's end changes the port and the list of started scans alone (R3, R92). -/
theorem State.endEvent_eq (s before : State) :
    s.endEvent before =
      { s with
        port := (s.endEvent before).port
        budget := { s.budget with scans := (s.startWanted before).budget.scans, wanted := before.budget.wanted } } :=
  (s.startWanted before).payNotices_eq before

/-- An event that has come to owe no notice and has started no scan is over as it stands. -/
theorem State.endEvent_id (s before : State) (hp : s.port.owed = before.port.owed) (hb : s.budget.wanted = before.budget.wanted) :
    s.endEvent before = s := by
  have hw : s.startWanted before = s := by simp [State.startWanted, State.mapBudget, ← hb]
  simp [State.endEvent, hw, State.payNotices, ← hp, State.mapPort]

@[simp] theorem State.endEvent_powered (s before : State) : (s.endEvent before).powered = s.powered := by rw [State.endEvent_eq]
@[simp] theorem State.endEvent_now (s before : State) : (s.endEvent before).now = s.now := by rw [State.endEvent_eq]
@[simp] theorem State.endEvent_lines (s before : State) : (s.endEvent before).lines = s.lines := by rw [State.endEvent_eq]
@[simp] theorem State.endEvent_berths (s before : State) : (s.endEvent before).berths = s.berths := by rw [State.endEvent_eq]
@[simp] theorem State.endEvent_channels (s before : State) : (s.endEvent before).channels = s.channels := by rw [State.endEvent_eq]
@[simp] theorem State.endEvent_tests (s before : State) : (s.endEvent before).tests = s.tests := by rw [State.endEvent_eq]
@[simp] theorem State.endEvent_bank (s before : State) : (s.endEvent before).bank = s.bank := by rw [State.endEvent_eq]
@[simp] theorem State.endEvent_transfer (s before : State) : (s.endEvent before).transfer = s.transfer := by rw [State.endEvent_eq]
@[simp] theorem State.endEvent_protect (s before : State) : (s.endEvent before).protect = s.protect := by rw [State.endEvent_eq]
@[simp] theorem State.endEvent_store (s before : State) : (s.endEvent before).store = s.store := by rw [State.endEvent_eq]
@[simp] theorem State.endEvent_start (s before : State) : (s.endEvent before).start = s.start := by rw [State.endEvent_eq]
@[simp] theorem State.endEvent_pending (s before : State) : (s.endEvent before).pending = s.pending := by rw [State.endEvent_eq]
@[simp] theorem State.endEvent_bu (s before : State) (b : Berth) : (s.endEvent before).bu b = s.bu b := by simp [State.bu]
@[simp] theorem State.endEvent_ch (s before : State) (b : Berth) : (s.endEvent before).ch b = s.ch b := by simp [State.ch]
@[simp] theorem State.endEvent_pb (s before : State) (b : Berth) : (s.endEvent before).pb b = s.pb b := by simp [State.pb]
@[simp] theorem State.endEvent_ln (s before : State) (b : Berth) : (s.endEvent before).ln b = s.ln b := by simp [State.ln]
@[simp] theorem State.endEvent_working (s before : State) : (s.endEvent before).budget.working = s.budget.working := by
  rw [State.endEvent_eq]
@[simp] theorem State.endEvent_target (s before : State) : (s.endEvent before).budget.target = s.budget.target := by
  rw [State.endEvent_eq]
@[simp] theorem State.endEvent_pendingMark (s before : State) : (s.endEvent before).budget.pendingMark = s.budget.pendingMark := by
  rw [State.endEvent_eq]
@[simp] theorem State.endEvent_seqCounter (s before : State) : (s.endEvent before).budget.seqCounter = s.budget.seqCounter := by
  rw [State.endEvent_eq]
@[simp] theorem State.endEvent_joinCounter (s before : State) : (s.endEvent before).budget.joinCounter = s.budget.joinCounter := by
  rw [State.endEvent_eq]
@[simp] theorem State.endEvent_queue (s before : State) : (s.endEvent before).budget.queue = s.budget.queue := by
  rw [State.endEvent_eq]

/-- An event's end posts notices alone at the port: it keeps its bounds. -/
theorem State.endEvent_bounded (s before : State) (h : PortBounded s) : PortBounded (s.endEvent before) :=
  foldl_post_bounded _ _ h

/-- An event of a unit under supply is its act and the event's end. -/
theorem State.event_powered (s : State) (f : State → State) (h : s.powered = true) : s.event f = (f s).endEvent s := if_pos h

/-- An event that owes no notice and starts no scan is its act. -/
theorem State.event_act (s : State) (f : State → State) (h : s.powered = true) (hp : (f s).port.owed = s.port.owed)
    (hb : (f s).budget.wanted = s.budget.wanted) : s.event f = f s :=
  (s.event_powered f h).trans (State.endEvent_id _ _ hp hb)

/-- An event of a unit without supply changes nothing. -/
theorem State.event_unpowered (s : State) (f : State → State) (h : s.powered = false) : s.event f = s := by
  simp [State.event, h]

/-- The expiry of a running timer is its act at the moment it was due or later. -/
theorem State.expire_some (s : State) (due : Nat) (f : State → State) :
    s.expire (some due) f = f { s with now := max s.now due } := rfl

/-- The expiry of a timer that does not run changes nothing. -/
theorem State.expire_none (s : State) (f : State → State) : s.expire none f = s := rfl

/-! ## Handing a record over -/

/-- All a hand-over can do (R204): the write begins under its limit, or the record waits, at most once of its kind. -/
theorem State.handOver_cases (s : State) (w : StoreWrite) :
    (s.store.running = none
        ∧ s.handOver w = { s with store := { s.store with running := some w, writeLimit := some (s.now + 3000) } })
      ∨ (s.store.running.isSome = true
        ∧ s.handOver w = { s with store := { s.store with waiting := joinWaiting w s.store.waiting } }) := by
  rcases h : s.store.running with _ | r
  · exact .inl ⟨rfl, by simp [handOver, h, mapStore, after, Config.writeMs]⟩
  · exact .inr ⟨rfl, by simp [handOver, h, mapStore]⟩

/-- A record that joins waits. -/
theorem joinWaiting_mem (w : StoreWrite) (ws : List StoreWrite) : w ∈ joinWaiting w ws := by
  unfold joinWaiting
  split
  · obtain ⟨x, hx, hk⟩ := List.any_eq_true.1 ‹_›
    exact List.mem_map.2 ⟨x, hx, if_pos hk⟩
  · exact List.mem_append_right _ (List.mem_singleton.2 rfl)

/-! ## A berth's state -/

/-- The berth after a change of state: its record with the marks and timers of the state (R6). -/
theorem State.takeState_bu_same (s : State) (b : Berth) (st : BState) : (s.takeState b st).bu b = (s.bu b).inState st := by
  simp [State.takeState]

/-- No other berth changes with a berth's state. -/
theorem State.takeState_bu_other (s : State) (b c : Berth) (st : BState) (h : c ≠ b) : (s.takeState b st).bu c = s.bu c := by
  simp [State.takeState, State.mapBu_bu_other _ _ _ _ h]

/-- All a change of state can do (R3): nothing where the state stays, else the state with its BERTH_STATE notice. -/
theorem State.setState_cases (s : State) (b : Berth) (st : BState) :
    ((s.bu b).st = st ∧ s.setState b st = s)
      ∨ ((s.bu b).st ≠ st ∧ s.setState b st = (s.takeState b st).post (.berthState b st (s.bu b).grant)) := by
  by_cases h : (s.bu b).st = st
  · exact .inl ⟨h, if_pos h⟩
  · exact .inr ⟨h, if_neg h⟩

@[simp] theorem State.setState_st (s : State) (b : Berth) (st : BState) : ((s.setState b st).bu b).st = st := by
  rcases s.setState_cases b st with ⟨h, e⟩ | ⟨_, e⟩ <;> rw [e]
  · exact h
  · simp [State.post, State.takeState_bu_same, BerthUnit.inState]

theorem State.setState_bu_other (s : State) (b c : Berth) (st : BState) (h : c ≠ b) : (s.setState b st).bu c = s.bu c := by
  rcases s.setState_cases b st with ⟨_, e⟩ | ⟨_, e⟩ <;> rw [e]
  simp [State.post, State.takeState_bu_other s b c st h]

/-- What a change of state keeps of a berth's record. -/
theorem State.setState_keeps (s : State) (b : Berth) (st : BState) :
    ((s.setState b st).bu b).grant = (s.bu b).grant ∧ ((s.setState b st).bu b).draw = (s.bu b).draw
      ∧ ((s.setState b st).bu b).seq = (s.bu b).seq ∧ ((s.setState b st).bu b).lastFault = (s.bu b).lastFault
      ∧ ((s.setState b st).bu b).detachSeen = (s.bu b).detachSeen ∧ ((s.setState b st).bu b).earthing = (s.bu b).earthing
      ∧ ((s.setState b st).bu b).breakerCmd = (s.bu b).breakerCmd
      ∧ ((s.setState b st).bu b).report = (s.bu b).report := by
  rcases s.setState_cases b st with ⟨_, e⟩ | ⟨_, e⟩ <;> rw [e]
  · simp
  · simp [State.post, State.takeState_bu_same, BerthUnit.inState]

@[simp] theorem State.setState_budget (s : State) (b : Berth) (st : BState) : (s.setState b st).budget = s.budget := by
  rcases s.setState_cases b st with ⟨_, e⟩ | ⟨_, e⟩ <;> rw [e]
  simp [State.post, State.takeState]

@[simp] theorem State.setState_tests (s : State) (b : Berth) (st : BState) : (s.setState b st).tests = s.tests := by
  rcases s.setState_cases b st with ⟨_, e⟩ | ⟨_, e⟩ <;> rw [e]
  simp [State.post, State.takeState]

@[simp] theorem State.setState_bank (s : State) (b : Berth) (st : BState) : (s.setState b st).bank = s.bank := by
  rcases s.setState_cases b st with ⟨_, e⟩ | ⟨_, e⟩ <;> rw [e]
  simp [State.post, State.takeState]

@[simp] theorem State.setState_store (s : State) (b : Berth) (st : BState) : (s.setState b st).store = s.store := by
  rcases s.setState_cases b st with ⟨_, e⟩ | ⟨_, e⟩ <;> rw [e]
  simp [State.post, State.takeState]

@[simp] theorem State.setState_holder (s : State) (b : Berth) (st : BState) :
    (s.setState b st).transfer.holder = s.transfer.holder := by
  rcases s.setState_cases b st with ⟨_, e⟩ | ⟨_, e⟩ <;> rw [e]
  simp [State.post, State.takeState]

@[simp] theorem State.setState_line (s : State) (b : Berth) (st : BState) : (s.setState b st).transfer.line = s.transfer.line := by
  rcases s.setState_cases b st with ⟨_, e⟩ | ⟨_, e⟩ <;> rw [e]
  simp [State.post, State.takeState]

/-! ## Breaker, switch and earthing procedure -/

@[simp] theorem State.openBreaker_lines (s : State) (b : Berth) : (s.openBreaker b).lines = s.lines := by simp [State.openBreaker]

/-- After an open command the breaker is reported open, or commanded open under the open supervision (R173). -/
theorem State.openBreaker_opening (s : State) (b : Berth) : Opening (s.openBreaker b) b := by
  intro h
  have hb : (s.openBreaker b).breaker b = s.breaker b := by simp only [State.breaker, State.ln, State.openBreaker_lines]
  rw [hb] at h
  have hi : s.standsOpen b = false := by simp [State.standsOpen, h]
  cases ho : (s.pb b).openSup <;> simp [State.openBreaker, State.after, hi, ho]

/-- An open command leaves no close command standing (R173). -/
theorem State.openBreaker_cmd (s : State) (b : Berth) : ((s.openBreaker b).bu b).breakerCmd ≠ some .close := by
  simp only [State.openBreaker, State.mapPb_bu, State.mapBu_bu_same]
  split
  · rename_i h
    simp only [State.standsOpen, State.closeOutstanding, Bool.and_eq_true, Bool.not_eq_true', beq_eq_false_iff_ne] at h
    exact h.2
  · simp

/-- All the start of the earthing procedure can do (R7). -/
theorem State.startEarthing_cases (s : State) (b : Berth) :
    (s.switch b = some .closed ∧ s.startEarthing b = s.endEarthing b)
      ∨ (s.switch b ≠ some .closed ∧ (s.bu b).earthing ≠ .idle ∧ s.startEarthing b = s)
      ∨ (s.switch b ≠ some .closed ∧ (s.bu b).earthing = .idle
          ∧ s.startEarthing b = (s.mapBu b fun u => { u with earthing := .waiting }).checkEarthing b) := by
  unfold State.startEarthing
  by_cases h : s.switch b = some .closed
  · exact .inl ⟨h, if_pos h⟩
  · by_cases e : (s.bu b).earthing = .idle
    · exact .inr (.inr ⟨h, e, by simp [h, e]⟩)
    · exact .inr (.inl ⟨h, e, by simp [h, e]⟩)

/-- All a due close can do (R20, R169, R175): a fault without the command, or the command, withdrawn at once under a trip. -/
theorem State.closeBreaker_cases (s : State) (b : Berth) :
    (s.switch b ≠ some .opened ∧ s.closeBreaker b = s.fault b .earthSwitch)
      ∨ (s.switch b = some .opened ∧ (s.ln b).pilotContinuous = false ∧ s.closeBreaker b = s.fault b .pilotOpen)
      ∨ (s.switch b = some .opened ∧ (s.ln b).pilotContinuous = true
          ∧ ((∃ c, (s.commandClose b).selectedTrip b = some c ∧ s.closeBreaker b = (s.commandClose b).fault b c)
            ∨ ((s.commandClose b).selectedTrip b = none
              ∧ s.closeBreaker b = if (s.commandClose b).output ((s.commandClose b).bset b).group
                  then (s.commandClose b).fault b .backupTrip else s.commandClose b))) := by
  unfold State.closeBreaker
  by_cases h : s.switch b = some .opened
  · cases hp : (s.ln b).pilotContinuous
    · exact .inr (.inl ⟨h, rfl, by simp [h]⟩)
    · refine .inr (.inr ⟨h, rfl, ?_⟩)
      cases ht : (s.commandClose b).selectedTrip b with
      | none => exact .inr ⟨rfl, by simp [h, ht]⟩
      | some c => exact .inl ⟨c, rfl, by simp [h, ht]⟩
  · exact .inl ⟨h, by simp [h]⟩

/-! ## The permit -/

/-- A line with an entry added holds it and what it held before (R143). -/
theorem insertLine_mem (e x : LineEntry) (line : List LineEntry) : x ∈ insertLine e line ↔ x = e ∨ x ∈ line := by
  unfold insertLine
  split <;> simp only [List.mem_append, List.mem_filter, List.mem_singleton]
  · tauto
  · cases x.cls <;> simp
    all_goals tauto
  · cases x.marked <;> simp
    all_goals tauto

/-- All the give can do (R144): the head of the line takes a free permit outside a resume round, else nothing changes. -/
theorem State.givePermit_cases (s : State) :
    s.givePermit = s
      ∨ ∃ e rest, s.transfer.holder = none ∧ s.transfer.resumeRound = false ∧ s.transfer.line = e :: rest
          ∧ s.givePermit =
              (s.mapTransfer fun t => { t with line := rest, holder := some e.berth, dwell := t.dwell.set e.berth 0 }).begin e := by
  unfold State.givePermit
  split
  · exact .inr ⟨_, _, ‹_›, ‹_›, ‹_›, rfl⟩
  · exact .inl rfl

/-- All a request can do (R143): nothing for a berth that holds or waits, else an entry and the give. -/
theorem State.requestPermit_cases (s : State) (b : Berth) (cls : LineClass) (head : Bool) :
    (s.permit b ≠ .none ∧ s.requestPermit b cls head = s)
      ∨ (s.permit b = .none
          ∧ s.requestPermit b cls head =
              (s.mapTransfer fun t => { t with line := insertLine { berth := b, cls := cls, head := head } t.line }).givePermit) := by
  by_cases h : s.permit b = .none
  · exact .inr ⟨h, if_pos h⟩
  · exact .inl ⟨h, if_neg h⟩

/-- All giving up can do (R145, R146): the holder's release with the next give, or the withdrawal of an entry. -/
theorem State.releasePermit_cases (s : State) (b : Berth) :
    (s.transfer.holder = some b ∧ s.releasePermit b = (s.mapTransfer fun t => t.released b).givePermit)
      ∨ (s.transfer.holder ≠ some b
          ∧ s.releasePermit b = s.mapTransfer fun t => { t with line := t.line.filter fun e => e.berth != b }) := by
  by_cases h : s.transfer.holder = some b
  · exact .inl ⟨h, if_pos h⟩
  · exact .inr ⟨h, if_neg h⟩

/-! ## The Test Dispatcher -/

/-- All an assignment can do (R67): nothing, or the head of the queue begins its test at a FREE unit with E-stop inactive. -/
theorem State.assignTo_cases (s : State) (u : TestUnit) :
    s.assignTo u = s
      ∨ ∃ e rest, s.lines.estop = false ∧ (s.unit u).status = .free ∧ s.tests.queue = e :: rest
          ∧ s.assignTo u = (s.mapTests fun t => { t with queue := rest }).beginTest u e.berth := by
  unfold State.assignTo
  split
  · exact .inr ⟨_, _, ‹_›, ‹_›, ‹_›, rfl⟩
  · exact .inl rfl

/-- All a test request can do (R66): nothing for a berth in the queue or under test, else an entry at the tail and assignment. -/
theorem State.requestTest_cases (s : State) (b : Berth) :
    ((s.tests.queue.any (fun e => e.berth == b) = true ∨ (s.servedBy b).isSome = true) ∧ s.requestTest b = s)
      ∨ (s.tests.queue.any (fun e => e.berth == b) = false ∧ s.servedBy b = none
          ∧ s.requestTest b = (s.mapTests fun t => { t with queue := t.queue ++ [{ berth := b, joined := s.now }] }).assign) := by
  unfold State.requestTest
  split
  · exact .inl ⟨‹_›, rfl⟩
  · rename_i h
    rw [not_or, Bool.not_eq_true, Bool.not_eq_true, Option.isSome_eq_false_iff, Option.isNone_iff_eq_none] at h
    exact .inr ⟨h.1, h.2, rfl⟩

/-! ## The Feeder Budget Unit -/

@[simp] theorem State.writeGrant_bu_same (s : State) (b : Berth) (g : Nat) (q : Option Nat) :
    (s.writeGrant b g q).bu b = { s.bu b with grant := g, draw := drawOf (s.cls b) s.set.eff g, seq := q } := by
  simp [State.writeGrant]

/-- All a change of a grant can do (R3): the record, and the GRANT notice owed where it differs. -/
theorem State.regrant_cases (s : State) (b : Berth) (g : Nat) (q : Option Nat) :
    s.regrant b g q = s.writeGrant b g q
      ∨ s.regrant b g q = (s.writeGrant b g q).owe (.grant b g (drawOf (s.cls b) s.set.eff g) q) := by
  simp only [State.regrant, State.oweGrant, State.writeGrant_bu_same]
  split
  · exact .inl rfl
  · exact .inr rfl

theorem State.writeGrant_bu_other (s : State) (b c : Berth) (g : Nat) (q : Option Nat) (h : c ≠ b) :
    (s.writeGrant b g q).bu c = s.bu c := State.mapBu_bu_other _ _ _ _ h

/-- An entry's removal leaves the berth none (R91). -/
theorem State.removeEntry_none (s : State) (b : Berth) : ∀ e ∈ (s.removeEntry b).budget.queue, e.berth ≠ b := by
  intro e he
  simp only [State.removeEntry, State.mapBudget_budget, List.mem_filter, bne_iff_ne] at he
  exact he.2

/-- All a join can do (R90, R91): nothing where the berth has an entry, else one entry at the tail and a scan. -/
theorem State.joinEntry_cases (s : State) (b : Berth) (k : EntryKind) (sought minimum : Nat) :
    ((s.entry b).isSome = true ∧ s.joinEntry b k sought minimum = s)
      ∨ (s.entry b = none
          ∧ s.joinEntry b k sought minimum = (s.mapBudget fun f => f.join b k sought minimum).startScan) := by
  unfold State.joinEntry
  cases h : s.entry b
  · exact .inr ⟨rfl, rfl⟩
  · exact .inl ⟨rfl, rfl⟩

/-- All a returned grant can do (R105). -/
theorem State.returnGrant_cases (s : State) (b : Berth) :
    ((s.bu b).grant = 0 ∧ s.returnGrant b = s.regrant b 0 none)
      ∨ ((s.bu b).grant ≠ 0 ∧ s.returnGrant b = ((s.regrant b 0 none).updateDemand.stepDown).startScan) := by
  by_cases h : (s.bu b).grant = 0
  · exact .inl ⟨h, if_pos h⟩
  · exact .inr ⟨h, if_neg h⟩

/-! ## Faults and the resume round -/

/-- All a fault can do (R29): a FAULTED berth records the cause, any other enters FAULTED. -/
theorem State.fault_cases (s : State) (b : Berth) (c : FaultCause) :
    ((s.bu b).st = .faulted ∧ s.fault b c = s.recordCause b c)
      ∨ ((s.bu b).st ≠ .faulted ∧ s.fault b c = s.enterFaulted b c) := by
  by_cases h : (s.bu b).st = .faulted
  · exact .inl ⟨h, if_pos h⟩
  · exact .inr ⟨h, if_neg h⟩

/-- All a valid frame can do to its link (R26, R47, R48): the link UP under its loss timer, and a LINK_HOLD berth back in SUPPLIED. -/
theorem State.heard_cases (s : State) (b : Berth) :
    let t := s.mapCh b fun c => { c with link := .up, loss := s.after Config.lossMs }
    ((s.bu b).st = .onShore .linkHold ∧ s.heard b = t.leaveHold b) ∨ ((s.bu b).st ≠ .onShore .linkHold ∧ s.heard b = t) := by
  by_cases h : (s.bu b).st = .onShore .linkHold
  · exact .inl ⟨h, if_pos (by simpa using h)⟩
  · exact .inr ⟨h, if_neg (by simpa using h)⟩

/-- All a breaker that has come to a position can meet at the earthing switch (R177). -/
theorem State.checkEarthed_cases (s : State) (b : Berth) :
    s.checkEarthed b = s
      ∨ (s.breaker b = .closed ∧ s.switch b ≠ some .opened
          ∧ s.checkEarthed b = (s.openBreaker b).faultEquipment b .earthSwitch) := by
  unfold State.checkEarthed
  split
  · rename_i h
    exact .inr ⟨h.1, h.2, rfl⟩
  · exact .inl rfl

/-! ## The resume round -/

/-- At rest no round is over and still open (R187). -/
theorem rests_iff (s : State) : Rests s ↔ s.roundOver = false := by
  cases h : s.transfer.resumeRound <;> simp [Rests, State.roundOver, h]

/-- Where the resume round has been closed the close does nothing (R187). -/
theorem State.closeRound_rests (s before : State) (h : Rests s) : s.closeRound before = s := by
  simp [State.closeRound, (rests_iff s).1 h]

/-- Whether a round is over is read off the berths and the round's mark. -/
theorem State.roundOver_congr {s t : State} (hb : t.berths = s.berths) (hr : t.transfer.resumeRound = s.transfer.resumeRound) :
    t.roundOver = s.roundOver := by
  have hu : t.unanswered = s.unanswered := by funext b; simp [State.unanswered, State.bu, hb]
  simp [State.roundOver, hr, hu]

/-- An event that keeps the berths and the round's mark closes no round. -/
theorem State.eventClosing_keeps (s : State) (f : State → State) (hb : (f s).berths = s.berths)
    (hr : (f s).transfer.resumeRound = s.transfer.resumeRound) : s.eventClosing f = s.event f := by
  unfold State.eventClosing State.event
  cases h : s.roundOver
  · have hc : (f s).closeRound s = f s := State.closeRound_rests _ _ ((rests_iff _).2 ((State.roundOver_congr hb hr).trans h))
    simp [hc, h]
  · simp [h]

/-- A change of state leaves the round's mark, and so do the acts of the close below. -/
theorem State.setState_round (s : State) (b : Berth) (st : BState) : (s.setState b st).transfer.resumeRound = s.transfer.resumeRound := by
  unfold State.setState
  split <;> simp [State.takeState, State.post, State.mapPort, State.mapPb, State.mapTransfer, State.mapCh, State.mapBu]

theorem State.joinTopup_round (s : State) (b : Berth) : (s.joinTopup b).transfer.resumeRound = s.transfer.resumeRound := by
  simp only [State.joinTopup, State.joinEntry]
  split <;> [rfl; (split <;> rfl)]

theorem State.givePermit_round (s : State) : (s.givePermit).transfer.resumeRound = s.transfer.resumeRound := by
  unfold State.givePermit
  split
  · simp only [State.begin]
    split <;> simp [State.setState_round, State.send, State.mapTransfer, State.mapCh]
  · rfl

theorem State.requestPermit_round (s : State) (b : Berth) (c : LineClass) (h : Bool) :
    (s.requestPermit b c h).transfer.resumeRound = s.transfer.resumeRound := by
  unfold State.requestPermit
  split
  · rw [State.givePermit_round]; rfl
  · rfl

theorem closeUnloaded_round (b : Berth) (s : State) : (closeUnloaded b s).transfer.resumeRound = s.transfer.resumeRound := by
  unfold closeUnloaded
  split
  · rw [State.joinTopup_round]
    unfold State.enterOnShore
    split
    · exact State.setState_round _ _ _
    · simp only []
      split <;> simp [State.orderTakeback, State.mapTimers, State.send, State.mapCh, State.mapBu, State.setState_round]
  · rfl

theorem closeLoaded_round (before : State) (b : Berth) (s : State) :
    (closeLoaded before b s).transfer.resumeRound = s.transfer.resumeRound := by
  unfold closeLoaded
  split
  · rfl
  split
  · simp [State.joinTopup_round, State.setState_round, State.send, State.mapCh, State.mapTransfer]
  · simp [State.requestPermit_round, State.enterReturn, State.setState_round, State.removeEntry, State.mapBudget, State.mapTransfer]

/-- After the close no round is over and still open (R187, R189). -/
theorem State.closeRound_closes (s before : State) : Rests (s.closeRound before) := by
  unfold State.closeRound
  split
  · intro h
    simp [State.givePermit_round, eachBerth, closeLoaded_round, closeUnloaded_round, State.mapTransfer] at h
  · rename_i h
    exact (rests_iff s).2 (by simpa using h)

/-- An event that begins at rest ends at rest (R187). -/
theorem State.eventClosing_rests (s : State) (f : State → State) (h : Rests s) : Rests (s.eventClosing f) := by
  unfold State.eventClosing State.event
  split
  · simp only [(rests_iff s).1 h, Bool.false_eq_true, if_false]
    refine (rests_iff _).2 ((State.roundOver_congr (s := (f s).closeRound s) ?_ ?_).trans ((rests_iff _).1 ((f s).closeRound_closes s)))
    · simp
    · simp
  · exact h

/-! ## The scan -/

/-- All the row of a scan can do (R92, R203): nothing while scans are held, else the scan started first, or one on what stands. -/
theorem State.admissionScan_cases (s : State) (h : s.powered = true) :
    (s.scansHeld = true ∧ execAdmissionScan s = .next s)
      ∨ (s.scansHeld = false
          ∧ ∃ k waiting, (s.budget.scans = k :: waiting ∨ (s.budget.scans = [] ∧ k = s.scanNow ∧ waiting = []))
              ∧ execAdmissionScan s = .next (s.eventClosing fun s => s.runScan k waiting)) := by
  cases hh : s.scansHeld
  · refine .inr ⟨rfl, ?_⟩
    cases hs : s.budget.scans with
    | nil => exact ⟨_, _, .inr ⟨rfl, rfl, rfl⟩, by simp [execAdmissionScan, State.eventClosing, State.event, h, hh, State.nextScan, hs]⟩
    | cons k rest => exact ⟨_, _, .inl rfl, by simp [execAdmissionScan, State.eventClosing, State.event, h, hh, State.nextScan, hs]⟩
  · refine .inl ⟨rfl, ?_⟩
    simp only [execAdmissionScan]
    rw [State.eventClosing_keeps _ _ (by simp [hh]) (by simp [hh])]
    simp [State.event, h, hh, State.endEvent_id s s rfl rfl]

end Sys2Proof.Machine
end

