-- ==== Sys2Proof/Tests/Slice0.lean ====
section
/-! SUPPORT. The smoke test of `WellFormed`, one-step tests whose expected results stand in the tables and worked examples of spec/,
and for every statement with hypotheses a state and operands that meet them, clause by clause. -/

namespace Sys2Proof.Tests

open Sys2Proof.Machine

/-! ## WellFormed: one ill-formed command for each check -/

/-- A HELLO in every range. -/
def hello : Hello :=
  { identity := [0x54, 0x45, 0x53, 0x54, 0x30, 0x30, 0x30, 0x31], vclass := .hv11, sclass := .f50, bidMin := 400, bidFull := 1000,
    modes := .both, resume := false, gens := 2 }

/-- A report in every range. -/
def report : MeterReport :=
  { supplyV := 11050, supplyF := some 50000, cableV := 10900, cableF := some 49940, phase := 336, power := 0, validMark := true }

theorem test_hello_wellFormed : (Instr.hello .b1 hello).wellFormed = true := by decide

theorem test_hello_short_identity : (Instr.hello .b1 { hello with identity := [0x54] }).wellFormed = false := by decide

theorem test_hello_unprintable :
    (Instr.hello .b1 { hello with identity := [0x1F, 0x45, 0x53, 0x54, 0x30, 0x30, 0x30, 0x31] }).wellFormed = false := by decide

theorem test_hello_nine_generators : (Instr.hello .b1 { hello with gens := 9 }).wellFormed = false := by decide

theorem test_beacon_nine_generators :
    (Instr.beacon .b1 { gens := 9, load := 0, breakerClosed := false, busLive := false }).wellFormed = false := by decide

theorem test_report_phase_above : (Instr.meterReport .b1 { report with phase := 18000 }).wellFormed = false := by decide

theorem test_report_phase_below : (Instr.meterReport .b1 { report with phase := -18001 }).wellFormed = false := by decide

theorem test_host_body_too_long (body : List Byte) (h : body.length = 1023) :
    (Instr.hostFrameReceived 1 0x41 body).wellFormed = false := by simp [Instr.wellFormed, h]

theorem test_earth_reading_too_large : (Instr.earthIntervalExpiry .a 65536).wellFormed = false := by decide

theorem test_insulation_reading_too_large : (Instr.measurementIntervalExpiry .a 1001 false).wellFormed = false := by decide

/-! ## Quantities, against the spec's tables -/

/-- Table 6-3, row 1. -/
theorem test_synchronism_row1 :
    slipOf 50000 49940 = -60 ∧ angleCorrection (-60) 80 = -173 ∧ predictedAngle 768 (-173) = 595
      ∧ voltageDifference 11050 10900 11000 = -13 := by decide

/-- Table 6-3, row 2: the predicted angle wraps. -/
theorem test_synchronism_wraps : angleCorrection 50 80 = 144 ∧ predictedAngle 17900 144 = -17956 := by decide

/-- Table 6-3, row 3. -/
theorem test_synchronism_row3 :
    slipOf 50000 50025 = 25 ∧ angleCorrection 25 80 = 72 ∧ predictedAngle (-100) 72 = -28
      ∧ voltageDifference 11000 11520 11000 = 47 := by decide

/-- Table 6-3, row 4. -/
theorem test_synchronism_row4 : predictedAngle 8950 0 = 8950 ∧ voltageDifference 11000 10450 11000 = -50 := by decide

/-- Section 4.11: 620 kVA draws 660 at 95 %, 630 draws 670, and 760 draws exactly 800. -/
theorem test_draws : drawOf .f60 95 620 = 660 ∧ drawOf .f60 95 630 = 670 ∧ drawOf .f60 95 760 = 800 ∧ drawOf .f60 95 770 = 820 := by
  decide

/-- Table 2-7, rows 4 to 6: bids 2,000 / 4,500, 600 / 5 and 155 / 1,234. -/
theorem test_bids : clampBids 2000 4500 = (2000, 3000) ∧ clampBids 600 5 = (10, 10) ∧ clampBids 155 1234 = (155, 1234) := by decide

/-- Table 2-7, rows 4 and 6: min′ / full′ by the outlet rating of 1,500. -/
theorem test_effective_bids :
    fullOf 3000 1500 = 1500 ∧ minOf 2000 1500 = 1500 ∧ fullOf 1234 1500 = 1240 ∧ minOf 155 1240 = 160 := by decide

/-- Section 6.9: the thresholds of 1,400 and 600; section 8.7: that of 920. -/
theorem test_thresholds : thresholdOf 1400 = 70 ∧ thresholdOf 600 = 50 ∧ thresholdOf 920 = 50 := by decide

/-- Table 8-3, B1, B3 and B4 (B6's row departs from the rounding of 0.6.5; log 43). -/
theorem test_adopted_grants : adoptedGrantOf 1183 = 1190 ∧ adoptedGrantOf 604 = 610 ∧ adoptedGrantOf 915 = 920 := by decide

/-! ## States for one step -/

/-- The reset state with B1 in a state, under a timer where one is named. -/
def berth (st : BState) (f : BerthUnit → BerthUnit := id) : State := State.reset.mapBu .b1 fun u => f { u with st := st }

/-- B1's breaker reported closed, its earthing switch open and its plug present. -/
def live (s : State) : State :=
  s.mapLn .b1 fun l =>
    { l with pilotContinuous := true, proximity := true, breakerClosed := true, breakerOpen := false, switchClosed := false,
             switchOpen := true }

/-- B1's breaker reported open on a connected cable, its earthing switch open. -/
def ready (s : State) : State :=
  s.mapLn .b1 fun l => { l with pilotContinuous := true, proximity := true, switchClosed := false, switchOpen := true }

/-- B1's link UP. -/
def linked (s : State) : State := s.mapCh .b1 fun c => { c with link := .up }

/-- An order of this kind and body, the next to be taken. -/
def orderOf (k : OrderKind) (body : List Byte) : Slot := { tag := 7, kind := k, body := body, taken := false }

/-- A state with that order in the buffer. -/
def ordered (o : Slot) (s : State) : State := s.mapPort fun p => { p with slots := [o] }

/-- A unit under test at B1. -/
def testing (r : UnitRec) : State := (ready (berth (.test .testing))).setUnit .a { r with berth := some .b1 }

/-- What a command leaves of one reading. -/
def after {α : Type} (i : Instr) (s : State) (f : State → α) : Option α :=
  match exec i s with
  | .next t => some (f t)
  | _ => none

/-! ## One step, against the worked sequences -/

/-- Table 1-6: the quiet timer's expiry leads to CALLING. -/
theorem test_quiet_timer :
    after (.quietTimerExpiry .b1) (berth (.probe .quiet) fun u => { u with timers := { u.timers with quiet := some 2000 } })
      (fun t => ((t.bu .b1).st, (t.ch .b1).sending)) = some (.probe .calling, some (.call 1 false)) := by decide

/-- Table 1-6: the HELLO with bids 400 / 1,000 leads to TEST, with min′ 400 and full′ 1,000. -/
theorem test_hello_connects :
    after (.hello .b1 hello) (berth (.probe .calling)) (fun t => ((t.bu .b1).st, (t.bu .b1).minEff, (t.bu .b1).fullEff))
      = some (.test .testing, some 400, some 1000) := by decide

/-- Table 2-7, row 1: a voltage class of another kind. -/
theorem test_hello_class_mismatch :
    after (.hello .b1 { hello with vclass := .hv6 }) (berth (.probe .calling)) (fun t => ((t.bu .b1).st, (t.bu .b1).lastFault))
      = some (.faulted, some .classMismatch) := by decide

/-- Table 2-8: the loss timer expires in SUPPLIED. -/
theorem test_link_hold :
    after (.lossTimerExpiry .b1) ((linked (live (berth (.onShore .supplied)))).mapCh .b1 fun c => { c with loss := some 5000 })
      (fun t => ((t.bu .b1).st, (t.ch .b1).link)) = some (.onShore .linkHold, .lost) := by decide

/-- Table 3-6: 520 milliohm against the limit of 400 is a FAIL. -/
theorem test_earth_fail :
    after (.earthIntervalExpiry .a 520) (testing { UnitRec.free with status := .earth, earthInterval := some 2000, index := 2 })
      (fun t => (t.tests.results.get .b1, (t.bu .b1).st))
      = some (some { verdict := .fail, unit := .a, earth := some 520, insulation := none, index := 2, hops := 0 }, .faulted) := by
  decide

/-- Table 3-6: a disturbed first measurement hops to the next index. -/
theorem test_measurement_hops :
    after (.measurementIntervalExpiry .a 85 true)
      (testing { UnitRec.free with status := .insulation, attempt := 1, measurement := some 10000 })
      (fun t => ((t.unit .a).attempt, (t.unit .a).index)) = some (2, 1) := by decide

/-- Table 6-5, report 5: the third report in window has the breaker commanded closed. -/
theorem test_dwell_met :
    after (.meterReport .b1 report)
      (((linked (ready (berth (.sync .checking) fun u => { u with sclass := some .f50, grant := 1000 }))).mapTransfer
        fun t => { t with holder := some .b1, sync := some 120000, dwell := t.dwell.set .b1 2 }))
      (fun t => ((t.bu .b1).st, (t.bu .b1).breakerCmd, (t.ch .b1).sending))
      = some (.sync .closing, some .close, some (.match_ (-60) 336 (-13) true)) := by decide

/-- Table 6-6: TAKEBACK at a grant of 1,400. -/
theorem test_takeback :
    after (.takeback .b1) (linked (live (berth (.onShore .supplied) fun u => { u with grant := 1400 })))
      (fun t => (t.transfer.threshold.get .b1, t.transfer.holder)) = some (some 70, some .b1) := by decide

/-- Table 7-4: the own trip input opens and faults a supplied berth. -/
theorem test_own_trip :
    after (.ownTripInputChange .b1 true) (live (berth (.onShore .supplied)))
      (fun t => ((t.bu .b1).st, (t.bu .b1).lastFault, (t.pb .b1).openSup)) = some (.faulted, some .tripOwn, some 500) := by decide

/-- Table 7-4: the open supervision's expiry asserts the group's output. -/
theorem test_backup_output :
    after (.openSupervisionExpiry .b1) ((live (berth .faulted)).mapPb .b1 fun p => { p with openSup := some 500 })
      (fun t => (t.output .a, (t.bu .b1).lastFault)) = some (true, some .breakerOpen) := by decide

/-- Table 9-5: PREPARE sets the prepared flag. -/
theorem test_prepare : after .prepare (ordered (orderOf .prepare []) .reset) (fun t => t.port.prepared) = some true := by decide

/-- Table 9-5: QUERY_QUEUE after PREPARE sets the sequence error. -/
theorem test_sequence_broken :
    after .queryQueue ((ordered (orderOf .queryQueue []) .reset).mapPort fun p => { p with prepared := true })
      (fun t => (t.port.prepared, t.port.sequenceError)) = some (false, true) := by decide

/-- Section 4.11: CURTAIL to 2,500, persistent, from 4,000. -/
theorem test_curtail :
    after .curtail (ordered (orderOf .curtail [0x09, 0xC4, 0x02]) .reset)
      (fun t => (t.budget.working, t.store.running)) = some (2500, some (.target 2500)) := by decide

/-- Table 5-5: RESTART_OK out of WATCH retires the module. -/
theorem test_second_strike :
    after (.restartOk .m5) (State.reset.mapModule .m5 fun r => { r with st := .restarting .watch })
      (fun t => ((t.bank.modules.get .m5).st, t.bank.counted)) = some (.retired, 7) := by decide

/-- Table 5-5: the settle timer's expiry without demand. -/
theorem test_settle :
    after .settleTimerExpiry (State.reset.mapBank fun k => { k with st := .starting, settle := some 20000 })
      (fun t => (t.bank.st, t.bank.idleStop)) = some (.idle, some 620000) := by decide

/-- Table 10-1: the settings record has 83 bytes, and APPLY reads back what READ_SETTINGS sends. -/
theorem test_settings_record :
    (settingsBytes .default).length = 83 ∧ parseSettings (settingsBytes .default) = some .default := by decide

/-- Table 9-1: PREPARE's OK under tag 7, and RELEASE_PENDING of B2 as notice 1 under tag 0, between the start byte and the CRC. -/
theorem test_port_frames :
    ((PortFrame.reply { tag := 7, immediate := false, reply := .ok 0x4F .none }).bytes.take 6) = [0xA5, 0, 3, 7, 0x61, 0x4F]
      ∧ (PortFrame.notice { number := 1, notice := .releasePending .b2 }).bytes.length = 10 := by decide

/-- Table 3-2: the first attempt injects 50 V at the frequency of its index. -/
theorem test_injection :
    after (.earthIntervalExpiry .a 120) (testing { UnitRec.free with status := .earth, earthInterval := some 2000, index := 2 })
      (fun t => ((t.unit .a).attempt, (t.unit .a).injection)) = some (1, some { volts := 50, mHz := 2000 }) := by decide

/-- R56: a held berth's frame takes it to SUPPLIED before its HELLO is acted on, its link UP or not. -/
theorem test_hold_ends_at_hello :
    after (.hello .b1 { hello with resume := true, gens := 0 })
      (linked (live (berth (.onShore .linkHold) fun u => { u with adoptedMark := true, grant := 1000 })))
      (fun t => ((t.bu .b1).st, (t.bu .b1).adoptedMark)) = some (.onShore .supplied, false) := by decide

/-- R173: closed feedback after a close withdrawn at OPEN is left to the open supervision, and the trip's cause stands. -/
theorem test_late_closed_feedback :
    after (.breakerFeedback .b1 true false)
      ((ready (berth .faulted fun u => { u with breakerCmd := some .opening, lastFault := some .tripOwn })).mapPb .b1 fun p =>
        { p with openSup := some 500 })
      (fun t => ((t.bu .b1).lastFault, (t.bu .b1).breakerCmd, (t.pb .b1).openSup)) = some (some .tripOwn, some .opening, some 500) := by
  decide

/-! ## Witnesses: states and operands that meet a statement's hypotheses -/

/-- A command at the front of the queue. -/
theorem test_witness_StepTakesFront : ({ State.reset with pending := [.queryUnit] } : State).pending = .queryUnit :: [] := rfl

theorem test_witness_KeptStateChangesByItsRows :
    Instr.prepare.isSupply = false ∧ Instr.prepare ≠ .curtail ∧ Instr.prepare.touchesHolders = false := by decide

/-- Outside a resume round nothing is left to close. -/
theorem rests_of_closed (s : State) (h : s.transfer.resumeRound = false) : Rests s := fun k => by rw [h] at k; cases k

/-- With an empty Permit Line and Test Queue, and no berth in ADOPTED that holds the permit or is under test, they are as they should
be. -/
theorem permitApart_of_held (s : State) (h : s.transfer.line = []) (q : s.tests.queue = [])
    (k : ∀ b, (s.bu b).st = .adopted → s.transfer.holder ≠ some b ∧ s.servedBy b = none) : PermitApart s := by
  simpa [PermitApart, h, q] using k

/-- With an empty Permit Line and Test Queue, no holder and no test they are as they should be. -/
theorem permitApart_of_free (s : State) (h : s.transfer.line = []) (k : s.transfer.holder = none) (q : s.tests.queue = [] := by rfl)
    (a : s.tests.unitA.berth = none := by rfl) (b : s.tests.unitB.berth = none := by rfl) : PermitApart s :=
  permitApart_of_held s h q (by simp [k, State.servedBy, a, b])

/-- With an empty Test Queue and IT-B FREE the tests are as they should be. -/
theorem testsApart_of_one (s : State) (h : s.tests.queue = []) (k : s.tests.unitB.berth = none) : TestsApart s := by
  simp [TestsApart, h, k]

/-- With nothing held and nothing waited for, every berth is placed. -/
theorem allPlaced_of_free (s : State) (h : s.transfer = .started) (q : s.tests = .cold)
    (k : ∀ b, (s.queueEntry b = some .admission → (s.bu b).st = .queued) ∧ ((s.bu b).st.mayHoldPermit = true → (s.bu b).st = .returning .lineWait)
      ∧ (s.bu b).timers.retest = none ∧ (s.bu b).timers.ready = none) : AllPlaced s := by
  refine ⟨fun b => ?_, ?_, ?_, ?_, ?_, ?_⟩ <;>
    simp_all [Placed, TransferUnit.started, TestDispatcher.cold, UnitRec.free, State.servedBy]
  exact (k b).2.1

theorem test_witness_BerthCommandsKeepOtherShips :
    (Instr.bye .b1).berth? = some .b1 ∧ Instr.bye .b1 ≠ .openSupervisionExpiry .b1 ∧ Berth.b2 ≠ .b1 := by decide

/-- The state of every invariant's witness: after reset with one command waiting, a step answers a next state. -/
def stepped : State := { State.reset with pending := [.estopActive] }

theorem test_witness_StepKeepsPortBounds : PortBounded stepped ∧ ∃ t, step stepped = .next t := ⟨⟨by decide, by decide, by decide⟩, _, rfl⟩

theorem test_witness_StepKeepsTransmitQueues : QueuesBounded stepped ∧ ∃ t, step stepped = .next t :=
  ⟨fun b => by cases b <;> decide, _, rfl⟩

theorem test_witness_StepKeepsTestQueue : TestsApart stepped ∧ ∃ t, step stepped = .next t :=
  ⟨testsApart_of_one _ rfl rfl, _, rfl⟩

theorem test_witness_StepKeepsAdmissionQueue : EntriesApart stepped ∧ ∃ t, step stepped = .next t :=
  ⟨⟨by decide, by simp [stepped, State.reset]⟩, _, rfl⟩

/-- The same command with B1 on supply at F60, its books kept, at the working limit. -/
def booked : State :=
  { (live (berth (.onShore .supplied) fun u =>
      { u with sclass := some .f60, grant := 1000, draw := 1060, minEff := some 400 })).mapBudget fun f => { f with working := 1060 } with
    pending := [.estopActive] }

theorem test_witness_StepKeepsAdmissionQueue_books :
    BooksKept booked ∧ booked.drawSum = booked.budget.working ∧ booked.bank.counted = countedOf booked.bank.modules
      ∧ booked.sum60 ≤ 250 * booked.bank.counted ∧ ∃ t, step booked = .next t := by
  refine ⟨⟨by decide, by decide, ?_, ?_, nofun, nofun, ?_⟩, by decide, by decide, by decide, _, rfl⟩ <;>
    intro b <;> cases b <;> decide

theorem test_witness_StepKeepsPermitLine : PermitApart stepped ∧ Rests stepped ∧ ∃ t, step stepped = .next t :=
  ⟨permitApart_of_free _ rfl rfl, rests_of_closed _ rfl, _, rfl⟩

/-- B1 in SYNC with the permit under its timer, B2 waiting for it. -/
def placed : State :=
  { ((berth (.sync .checking)).mapBu .b2 fun u => { u with st := .ready .waitPermit }).mapTransfer fun t =>
      { t with holder := some .b1, line := [{ berth := .b2, cls := .forward, head := false }], sync := some 120000 } with
    pending := [.estopActive] }

theorem test_witness_StepKeepsPermitLine_placed :
    PermitApart placed ∧ TestsApart placed ∧ EntriesApart placed ∧ AllPlaced placed ∧ ∃ t, step placed = .next t := by
  refine ⟨⟨by decide, ?_, ?_⟩, testsApart_of_one _ rfl rfl, ⟨by decide, nofun⟩, ⟨?_, ?_, nofun, nofun, nofun, nofun⟩, _, rfl⟩
  · intro b; cases b <;> decide
  · intro b; cases b <;> decide
  · intro b
    refine ⟨?_, ?_, ?_, ?_, ?_, ?_, ?_, fun h => ?_⟩
    · cases b <;> decide
    · cases b <;> decide
    · cases b <;> decide
    · cases b <;> decide
    · cases b <;> decide
    · cases b <;> decide
    · cases b <;> decide
    · cases b <;> cases h
  · exact fun _ => ⟨.b1, rfl, rfl⟩

/-- A close that stands: OPEN_CLOSE with the cable seen dead. -/
def closing : State := linked (ready (berth (.ready .openClose) fun u =>
  { u with sclass := some .f50, grant := 100, timers := { u.timers with cable := some 5000 } }))

theorem test_witness_CommandsStandSafely_close :
    (closing.bu .b1).breakerCmd ≠ some .close
      ∧ after (.meterReport .b1 { report with cableV := 20, cableF := none }) closing (fun t => (t.bu .b1).breakerCmd)
        = some (some .close) := by decide

/-- A close stands in OPEN_CLOSE, and stays while another berth's plug is found. -/
theorem test_witness_CommandsStandSafely_stands :
    let s := closing.mapBu .b1 fun u => { u with breakerCmd := some .close }
    PermitApart s ∧ AllPlaced s ∧ ClosesStand s ∧ (s.bu .b1).breakerCmd = some .close
      ∧ after (.plugProximityChange .b2 true) s (fun t => (t.bu .b1).breakerCmd) = some (some .close) := by
  refine ⟨permitApart_of_free _ rfl rfl, allPlaced_of_free _ rfl rfl fun b => ?_, fun b h => ?_, rfl, by decide⟩
  · cases b <;> decide
  · cases b
    · exact ⟨rfl, .inl rfl, rfl, rfl⟩
    all_goals cases h

/-- A switch command that stands: the discharge interval of the earthing procedure ends on a dead cable. -/
def earthed : State := ready (berth (.released .earthing) fun u =>
  { u with earthing := .discharging, report := some { report with cableV := 20, cableF := none },
           timers := { u.timers with discharge := some 5000 } })

theorem test_witness_CommandsStandSafely_switch :
    (earthed.bu .b1).switchCmd ≠ some .closed
      ∧ after (.dischargeIntervalExpiry .b1) earthed (fun t => (t.bu .b1).switchCmd) = some (some .closed) := by decide

/-- A berth whose retest delay runs out while both units are FREE. -/
def retest : State := berth (.test .retestDelay) fun u => { u with timers := { u.timers with retest := some 60000 } }

theorem test_witness_NoTestBeginsUnderEstop :
    retest.unit .a = .free ∧ after (.retestDelayExpiry .b1) retest (fun t => (t.unit .a).status) = some .earth := by decide

theorem test_witness_DrawOfGrant : 0 < (95 : Nat) := by decide

theorem test_witness_HostFrameIsJudged_slot :
    State.reset.powered = true ∧ orderOfCode 0x42 = some .queryBerth ∧ (1 : Byte) ≠ 0 ∧ [(1 : Byte)].length = orderLength .queryBerth
      ∧ State.reset.port.slots.length < 2 := by decide

theorem test_witness_HostFrameIsJudged_full :
    let s := State.reset.mapPort fun p => { p with slots := [orderOf .prepare [], orderOf .prepare []] }
    s.powered = true ∧ orderOfCode 0x52 = some .restart ∧ ¬ s.port.slots.length < 2 ∧ s.port.immediateHeld = false := by decide

theorem test_witness_HostFrameIsJudged_unknown : orderOfCode 0x53 = none ∧ orderOfCode 0x40 = none := by decide

theorem test_witness_LinesActAlone : State.reset.powered = true := rfl

theorem test_witness_HostFrameSentStartsNext (f : PortFrame) :
    let s := State.reset.mapPort fun p => { p with sending := some f }
    s.powered = true ∧ s.port.sending = some f := ⟨rfl, rfl⟩

/-- Any order stands next to be taken in a port that takes orders. -/
theorem takes_ordered (k : OrderKind) (body : List Byte) (s : State) (p : s.powered = true) (q : s.start = none) :
    Takes (ordered (orderOf k body) s) (orderOf k body) := ⟨p, q, rfl⟩

theorem test_witness_QueriesReportAndChangeNothing (k : OrderKind) :
    Takes (ordered (orderOf k [6]) .reset) (orderOf k [6]) ∧ (orderOf k [6]).kind = k
      ∧ berthOperand (orderOf k [6]).body = some .b6 ∧ berthOperand [7] = none :=
  ⟨takes_ordered _ _ _ rfl rfl, rfl, rfl, rfl⟩

theorem test_witness_PrepareSequence (k : OrderKind) (prepared : Bool) :
    let s := State.reset.mapPort fun p => { p with prepared := prepared }
    Takes (ordered (orderOf k []) s) (orderOf k []) ∧ (ordered (orderOf k []) s).port.prepared = prepared :=
  ⟨takes_ordered _ _ _ rfl rfl, rfl⟩

/-- The boundary targets 500 and 20,000, one below and one above, and a mark that is none. -/
theorem test_witness_CurtailSetsWorkingLimit :
    Takes (ordered (orderOf .curtail [0x01, 0xF4, 0x01]) .reset) (orderOf .curtail [0x01, 0xF4, 0x01])
      ∧ halfAt [0x01, 0xF4, 0x01] 0 = 500 ∧ markOfCode (byteAt [0x01, 0xF4, 0x01] 2) = some .volatile
      ∧ halfAt [0x4E, 0x20, 0x02] 0 = 20000 ∧ markOfCode (byteAt [0x4E, 0x20, 0x02] 2) = some .persistent
      ∧ halfAt [0x01, 0xF3, 0x01] 0 = 499 ∧ halfAt [0x4E, 0x21, 0x01] 0 = 20001
      ∧ markOfCode (byteAt [0x01, 0xF4, 0x03] 2) = none := by
  refine ⟨takes_ordered _ _ _ rfl rfl, ?_⟩
  decide

/-- B1 granted 1,000 with min′ 400: a target of 500 lies below the draws and the working limit. -/
def curtailed : State :=
  (berth (.onShore .supplied) fun u =>
    { u with sclass := some .f50, grant := 1000, draw := 1000, minEff := some 400 }).mapBudget fun f => { f with working := 4000 }

theorem test_witness_CurtailSetsWorkingLimit_reduces :
    (∀ b : Berth, (curtailed.bu b).draw = drawOf (curtailed.cls b) curtailed.set.eff (curtailed.bu b).grant
        ∧ ((curtailed.bu b).grant ≠ 0 → (curtailed.bu b).minEff.getD 0 ≤ (curtailed.bu b).grant))
      ∧ 0 < curtailed.set.eff ∧ 500 < curtailed.budget.working ∧ (curtailed.bu .b1).irreducible = false
      ∧ after .curtail (ordered (orderOf .curtail [0x01, 0xF4, 0x01]) curtailed) (fun t => (t.bu .b1).grant) = some 500 := by
  refine ⟨fun b => ?_, by decide, by decide, by decide, by decide⟩
  cases b <;> decide

/-- RELEASE and RELEASE with FORCE of B1, in every state. -/
theorem test_witness_ReleaseByState (st : BState) :
    let o := orderOf .release [1, 0]
    Takes (ordered o (berth st)) o ∧ o.kind = .release ∧ berthOperand o.body = some .b1 ∧ byteAt o.body 1 = 0
      ∧ byteAt o.body 1 ≠ 1 ∧ ((ordered o (berth st)).bu .b1).st = st ∧ ((ordered o (berth st)).bu .b1).detachSeen = false
      ∧ PermitApart (ordered o (berth st)) :=
  ⟨takes_ordered _ _ _ rfl rfl, rfl, rfl, rfl, by decide, rfl, rfl, permitApart_of_free _ rfl rfl⟩

/-- A body that names no berth, a force field outside its codes, and a berth whose plug had gone. -/
theorem test_witness_ReleaseByState_operands :
    let g := berth .queued fun u => { u with detachSeen := true }
    berthOperand [0, 0] = none ∧ berthOperand [7, 1] = none ∧ byteAt [1, 2] 1 ≠ 0 ∧ byteAt [1, 2] 1 ≠ 1
      ∧ (g.bu .b1).detachSeen = true ∧ g.present .b1 = false
      ∧ after .release (ordered (orderOf .release [1, 0]) g) (fun t => (t.bu .b1).st) = some .vacant
      ∧ after .releaseForce (ordered (orderOf .release [1, 1]) g) (fun t => (t.bu .b1).st) = some .vacant
      ∧ after .release (ordered (orderOf .release [1, 0]) (linked (ready (berth (.sync .checking))))) (fun t => (t.ch .b1).sending)
        = some (some .syncAbandoned) := by decide

/-- RELEASE and RELEASE with FORCE from READY after GRANT, and with FORCE from SYNC. -/
theorem test_witness_ReleaseByState_messages :
    let g := linked (ready (berth (.ready .awaitShip) fun u =>
      { u with grantSent := true, grant := 1000, minEff := some 400, fullEff := some 1000 }))
    let said (t : State) := (t.ch .b1).sending
    (g.bu .b1).grantSent = true
      ∧ after .release (ordered (orderOf .release [1, 0]) g) said = some (some (.grant 0 (some 400) (some 1000) false))
      ∧ after .releaseForce (ordered (orderOf .release [1, 1]) g) said = some (some (.grant 0 (some 400) (some 1000) false))
      ∧ after .releaseForce (ordered (orderOf .release [1, 1]) (linked (ready (berth (.sync .checking))))) said
        = some (some .syncAbandoned) := by decide

theorem test_witness_ReleaseForceSeparates (st : BState) :
    let o := orderOf .release [1, 1]
    Takes (ordered o (berth st)) o ∧ o.kind = .release ∧ berthOperand o.body = some .b1 ∧ byteAt o.body 1 = 1
      ∧ ((ordered o (berth st)).bu .b1).st = st
      ∧ ((ordered o (berth st)).bu .b1).detachSeen = false ∧ PermitApart (ordered o (berth st)) :=
  ⟨takes_ordered _ _ _ rfl rfl, rfl, rfl, rfl, rfl, rfl, permitApart_of_free _ rfl rfl⟩

/-- RELEASE of a berth under test, and of one that waits for a test, with FORCE too. -/
theorem test_witness_ReleaseByState_tests :
    let u := testing { UnitRec.free with status := .earth, earthInterval := some 2000 }
    let w := { berth (.test .testWait) with tests := { (berth (.test .testWait)).tests with queue := [{ berth := .b1, joined := 0 }] } }
    TestsApart u ∧ u.servedBy .b1 ≠ none
      ∧ after .release (ordered (orderOf .release [1, 0]) u) (fun t => (t.servedBy .b1, (t.bu .b1).st)) = some (none, .released .earthing)
      ∧ after .releaseForce (ordered (orderOf .release [1, 1]) w) (fun t => t.tests.queue.length) = some 0 :=
  ⟨testsApart_of_one _ rfl rfl, by decide, by decide, by decide⟩

theorem test_witness_BlockByState (st : BState) :
    let o := orderOf .block [1]
    Takes (ordered o (berth st)) o ∧ PermitApart (ordered o (berth st)) ∧ o.kind = .block ∧ berthOperand o.body = some .b1
      ∧ ((ordered o (berth st)).bu .b1).st = st :=
  ⟨takes_ordered _ _ _ rfl rfl, permitApart_of_free _ rfl rfl, rfl, rfl, rfl⟩

/-- BLOCK of a FAULTED berth, its breaker closed under its own trip input, faults it again. -/
theorem test_witness_BlockByState_trip :
    let s := ordered (orderOf .block [1]) ((live (berth .faulted fun u => { u with lastFault := some .breakerOpen })).mapLn .b1 fun l =>
      { l with ownTrip := true })
    (s.bu .b1).st = .faulted ∧ s.breaker .b1 = .closed ∧ s.selectedTrip .b1 = some .tripOwn ∧ (s.bu .b1).detachSeen = false
      ∧ after .block s (fun t => ((t.bu .b1).st, (t.bu .b1).lastFault)) = some (.faulted, some .tripOwn) := by decide

/-- The replies to an order whose body names no berth. -/
theorem test_witness_BlockByState_noSuch :
    let said (t : State) := t.port.sending
    let no (k : Byte) : Option (Option PortFrame) :=
      some (some (.reply { tag := 7, immediate := false, reply := .refused k .noSuch }))
    berthOperand [0] = none ∧ berthOperand [7] = none ∧ moduleOperand [9] = none
      ∧ after .block (ordered (orderOf .block [7]) .reset) said = no 0x4A
      ∧ after .unblock (ordered (orderOf .unblock [0]) .reset) said = no 0x4B
      ∧ after .clear (ordered (orderOf .clear [7]) .reset) said = no 0x4C
      ∧ after .reinit (ordered (orderOf .reinit [0]) .reset) said = no 0x4D
      ∧ after .proof (ordered (orderOf .proof [9]) .reset) said = no 0x4E := by decide

theorem test_witness_UnblockLeadsToVacant (st : BState) :
    let o := orderOf .unblock [1]
    Takes (ordered o (berth st)) o ∧ o.kind = .unblock ∧ berthOperand o.body = some .b1
      ∧ ((ordered o (berth st)).bu .b1).st = st := ⟨takes_ordered _ _ _ rfl rfl, rfl, rfl, rfl⟩

/-- CLEAR and REINIT of a berth in FAULTED without a cause present are taken. -/
theorem test_witness_ClearAndReinitByState (k : OrderKind) :
    let o := orderOf k [1]
    Takes (ordered o (berth .faulted)) o ∧ PermitApart (ordered o (berth .faulted)) ∧ berthOperand o.body = some .b1 ∧ o.kind = k
      ∧ ((ordered o (berth .faulted)).bu .b1).st = .faulted ∧ (ordered o (berth .faulted)).clearable .b1 = true
      ∧ (ordered o (berth .faulted)).reinitTaken .b1 = true :=
  ⟨takes_ordered _ _ _ rfl rfl, permitApart_of_free _ rfl rfl, rfl, rfl, rfl, rfl, rfl⟩

/-- A holder cleared with its breaker open leaves the list, and one put to REINIT with its breaker closed is marked. -/
theorem test_witness_ClearAndReinitByState_holder :
    let listed (s : State) : State := { s with protect := { s.protect with holdersA := [{ berth := .b1, cleared := false }] } }
    let o := ordered (orderOf .clear [1]) (listed (berth .faulted))
    let c := ordered (orderOf .reinit [1]) (listed (live (berth .blocked)))
    o.clearable .b1 = true ∧ after .clear o (fun t => t.holders .a) = some []
      ∧ c.reinitTaken .b1 = true ∧ c.breaker .b1 = .closed
      ∧ after .reinit c (fun t => t.holders .a) = some [{ berth := .b1, cleared := true }] := by decide

/-- PROOF of M8 in every module state. -/
theorem test_witness_ProofAndCensusWithdrawModules_proof (st : MState) :
    let o := orderOf .proof [8]
    let s := State.reset.mapModule .m8 fun r => { r with st := st }
    Takes (ordered o s) o ∧ o.kind = .proof ∧ moduleOperand o.body = some .m8 ∧ ((ordered o s).bank.modules.get .m8).st = st :=
  ⟨takes_ordered _ _ _ rfl rfl, rfl, rfl, rfl⟩

/-- CENSUS prepared, with no write and no demand; with a write; with demand 1. -/
theorem test_witness_ProofAndCensusWithdrawModules_census :
    let o := orderOf .census []
    let s := State.reset.mapPort fun p => { p with prepared := true }
    Takes (ordered o s) o ∧ o.kind = .census ∧ (ordered o s).port.prepared = true ∧ (ordered o s).writeInHand = false
      ∧ (ordered o s).bank.demand = 0 ∧ (s.handOver (.target 500)).writeInHand = true
      ∧ (s.mapBank fun k => { k with demand := 1 }).bank.demand ≠ 0
      ∧ after .census (ordered o ((s.handOver (.target 500)).mapBank fun k => { k with demand := 1 })) (fun t => t.port.sending)
        = some (some (.reply { tag := 7, immediate := false, reply := .refused 0x51 .state })) := by
  refine ⟨takes_ordered _ _ _ rfl rfl, ?_⟩
  decide

/-- An APPLY body in range: class, detection, trip source and group 1 at every berth, every other byte 0. -/
def applyBody : List Byte :=
  List.replicate 35 0 ++ ((List.replicate 6 ([0, 0, 1, 0, 0, 1, 1, 1] : List Byte)).flatten)

theorem test_witness_ApplyHandsOverSettings_body :
    (parseSettings applyBody).isSome = true ∧ (parseSettings [0]).isSome = false := by decide

theorem test_witness_ApplyHandsOverSettings (body : List Byte) :
    let o := orderOf .apply body
    let s := State.reset.mapPort fun p => { p with prepared := true }
    Takes (ordered o s) o ∧ o.kind = .apply ∧ (ordered o s).port.prepared = true ∧ o.body = body
      ∧ (ordered o s).writeInHand = false := ⟨takes_ordered _ _ _ rfl rfl, rfl, rfl, rfl, rfl⟩

/-- RESTART finds B1 closed, with no holder, no E-stop, the loop continuous and no trip. -/
theorem test_witness_RestartKeepsAndAdopts :
    let o := orderOf .restart []
    let s := ordered o (live .reset)
    Takes s o ∧ o.kind = .restart ∧ s.writeInHand = false ∧ s.breaker .b1 = .closed ∧ s.isHolder .b1 = false
      ∧ s.lines.estop = false ∧ (s.ln .b1).pilotContinuous = true ∧ s.selectedTrip .b1 = none := by
  refine ⟨takes_ordered _ _ _ rfl rfl, ?_⟩
  decide

set_option maxRecDepth 4000 in
/-- RESTART finds B1 open, UNKNOWN, and in a holder list. -/
theorem test_witness_RestartKeepsAndAdopts_placements :
    let s := ordered (orderOf .restart []) .reset
    let h := { s with protect := { s.protect with holdersA := [{ berth := .b1, cleared := false }] } }
    s.breaker .b1 = .opened ∧ s.isHolder .b1 = false
      ∧ (s.mapLn .b1 fun l => { l with breakerOpen := false }).breaker .b1 = .unknown ∧ h.isHolder .b1 = true
      ∧ after .restart s (fun t => (t.bu .b1).st) = some .vacant ∧ after .restart h (fun t => (t.bu .b1).st) = some .faulted := by
  decide

/-- What a start finds at a closed breaker: nothing, E-stop, an open loop, a trip; and a group whose output is asserted. -/
theorem test_witness_RestartKeepsAndAdopts_found :
    let s := live .reset
    let e := { s with lines := { s.lines with estop := true } }
    let g := { s with protect := { s.protect with holdersA := [{ berth := .b2, cleared := false }] } }
    s.foundFault .b1 = none ∧ e.foundFault .b1 = some .estop
      ∧ (s.mapLn .b1 fun l => { l with pilotContinuous := false }).foundFault .b1 = some .pilotOpen
      ∧ (s.mapLn .b1 fun l => { l with ownTrip := true }).foundFault .b1 = some .tripOwn
      ∧ g.output (g.bset .b1).group = true ∧ g.isHolder .b1 = false := by decide

set_option maxRecDepth 4000 in
theorem test_witness_RestartKeepsAndAdopts_faults :
    let o := ordered (orderOf .restart []) (live .reset)
    let g := { o with protect := { o.protect with holdersA := [{ berth := .b2, cleared := false }] } }
    after .restart (o.mapLn .b1 fun l => { l with ownTrip := true }) (fun t => (t.bu .b1).lastFault) = some (some .tripOwn)
      ∧ after .restart g (fun t => ((t.bu .b1).st, (t.pb .b1).backupPending)) = some (.adopted, some .a) := by decide

set_option maxRecDepth 4000 in
/-- RESTART takes a restarting module back IN_SERVICE, and posts it. -/
theorem test_witness_RestartKeepsAndAdopts_module :
    let s := ordered (orderOf .restart []) (State.reset.mapModule .m5 fun r => { r with st := .restarting .inService })
    (s.bank.modules.get .m5).st = .restarting .inService
      ∧ after .restart s (fun t => (t.port.noticeLine.map NumberedNotice.notice).take 1)
        = some [.module .m5 .inService 0 8 false] := by decide

/-- A cold start finds B1 open, UNKNOWN, and closed. -/
theorem test_witness_SupplyCommandsStartAndStop :
    State.reset.breaker .b1 = .opened
      ∧ (State.reset.mapLn .b1 fun l => { l with breakerOpen := false }).breaker .b1 = .unknown
      ∧ (live .reset).breaker .b1 = .closed ∧ (live .reset).lines.estop = false ∧ ((live .reset).ln .b1).pilotContinuous = true := by
  decide

set_option maxRecDepth 4000 in
/-- That cold start leaves B1 without a selected trip. -/
theorem test_witness_SupplyCommandsStartAndStop_trip :
    after (.coldStart true true true) (live .reset) (fun t => t.selectedTrip .b1) = some none := by decide

set_option maxRecDepth 4000 in
/-- A cold start under E-stop faults B1 with its breaker closed. -/
theorem test_witness_SupplyCommandsStartAndStop_found :
    let s := { live .reset with lines := { (live .reset).lines with estop := true } }
    after (.coldStart true true true) s (fun t => (t.foundFault .b1, (t.bu .b1).lastFault)) = some (some .estop, some .estop) := by
  decide

/-- The start window with B1 adopted, and B2 adopted and answered. -/
def window : State :=
  { (live (berth .adopted)).mapBu .b2 fun u => { u with st := .adopted, answered := true } with
    start := some { kind := .cold, defaulted := false, window := 2000 } }

theorem test_witness_StartWindowGrantsAdopted :
    window.powered = true ∧ window.start = some { kind := .cold, defaulted := false, window := 2000 }
      ∧ (window.bu .b1).st = .adopted ∧ (window.bu .b1).answered = false ∧ (window.bu .b2).st = .adopted
      ∧ (window.bu .b2).answered = true ∧ window.budget.target = none
      ∧ (∀ c : Berth, (window.bu c).grant = 0 ∧ (window.bu c).draw = 0)
      ∧ sumBerths (fun c => if window.adopted c then drawOf (window.cls c) window.set.eff (window.adoptedGrant .cold c) else 0)
          ≤ window.set.nativeLimit
      ∧ sumBerths (fun c => if window.adopted c ∧ window.cls c = .f60 then window.adoptedGrant .cold c else 0) ≤ window.capacity
      ∧ window.budget.seqCounter + 6 ≤ 4294967295 := by
  refine ⟨rfl, rfl, rfl, rfl, rfl, rfl, rfl, fun c => ?_, by decide, by decide, by decide⟩
  cases c <;> decide

/-- B1 and B2 adopted at F60 with 200 and 610 kVA, B3 at F50 with 1,190, under a native limit of 2,000 and one counted module. -/
def filling : State :=
  let found (b : Berth) (kva : Int) (sixty : Bool) (s : State) : State :=
    (s.mapLn b fun l => { l with breakerClosed := true, breakerOpen := false, selector60 := sixty, selector50 := !sixty }).mapBu b
      fun u => { u with st := .adopted, report := some { report with power := kva } }
  let s := found .b3 1183 false (found .b2 604 true (found .b1 200 true .reset))
  { (s.mapBank fun k => { k with counted := 1 }).mapStore fun t => { t with inForce := { t.inForce with nativeLimit := 2000 } } with
    start := some { kind := .cold, defaulted := false, window := 2000 } }

theorem test_witness_StartWindowGrantsAdopted_sheds :
    PermitApart filling ∧ (∀ c : Berth, (filling.bu c).grant = 0 ∧ (filling.bu c).draw = 0)
      ∧ (∀ c : Berth, (filling.bu c).st = .adopted → (filling.bu c).answered = false ∧ (filling.bu c).seq = none)
      ∧ filling.feederFill .cold = [.b1, .b2] ∧ filling.converterFill .cold = [.b1] := by
  refine ⟨permitApart_of_free _ rfl rfl, fun c => ?_, fun c => ?_, by decide, by decide⟩ <;> cases c <;> decide

set_option maxRecDepth 4000 in
theorem test_witness_StartWindowGrantsAdopted_close :
    after .startWindowClose filling (fun t => ((t.bu .b1).grant, (t.bu .b2).st, (t.bu .b3).st))
      = some (200, .returning .lineWait, .returning .lineWait) := by decide

theorem test_witness_StoreWriteEnds (w : StoreWrite) :
    let s := State.reset.handOver w
    s.powered = true ∧ s.store.running = some w ∧ s.store.writeLimit = some 3000 :=
  ⟨rfl, rfl, rfl⟩

/-- A write of settings other than those in force is running. -/
def writing (f : Settings → Settings) (s : State) : State := s.handOver (.settings (f s.set) true)

/-- B1's settings changed in a record. -/
def ofB1 (f : BerthSettings → BerthSettings) (r : Settings) : Settings := { r with berth := r.berth.set .b1 (f (r.berth.get .b1)) }

set_option maxRecDepth 8000 in
/-- The native limit falls with no grant held; M8 leaves the installed range and enters it; the threshold reaches the count. -/
theorem test_witness_StoreWriteEnds_terminal :
    let n (k : Nat) := writing (fun r => { r with modulesInstalled := k })
    let m8 (t : State) := ((t.bank.modules.get .m8).st, t.bank.counted, t.store.running.map StoreWrite.kind)
    let seven := ((State.reset.mapModule .m8 fun r => { r with st := .absent }).mapBank fun k => { k with counted := 7 }).mapStore
      fun t => { t with inForce := { t.inForce with modulesInstalled := 7 } }
    after (.storeWriteComplete true) (writing (fun r => { r with nativeLimit := 3000 }) .reset) (fun t => t.budget.working) = some 3000
      ∧ after (.storeWriteComplete true) (n 7 .reset) m8 = some (.absent, 7, some .moduleHistory)
      ∧ after (.storeWriteComplete true) (n 8 seven) m8 = some (.proofPending, 7, some .moduleHistory)
      ∧ after (.storeWriteComplete true) (writing (fun r => { r with suspThreshold := 8 }) .reset) (fun t => t.bank.suspended)
        = some true := by decide

set_option maxRecDepth 8000 in
/-- B1's presence appears by its new detection source in VACANT and in RELEASED, and is lost in BLOCKED, FAULTED and QUEUED. -/
theorem test_witness_StoreWriteEnds_presence :
    let plugged (st : BState) := (berth st).mapLn .b1 fun l => { l with proximity := true }
    let became (d : Detection) (s : State) :=
      after (.storeWriteComplete true) (writing (ofB1 fun g => { g with detection := d }) s)
        (fun t => ((t.bu .b1).st, (t.bu .b1).attachSeen, (t.bu .b1).detachSeen))
    let gone (st : BState) := became .both ((plugged st).mapStore fun t =>
      { t with inForce := ofB1 (fun g => { g with detection := .proximity }) t.inForce })
    (plugged .vacant).breaker .b1 = .opened ∧ (plugged .vacant).closeOutstanding .b1 = false
      ∧ became .proximity (plugged .vacant) = some (.probe .quiet, false, false)
      ∧ became .proximity (plugged (.released .earthing)) = some (.released .earthing, true, false)
      ∧ gone .blocked = some (.blocked, false, true) ∧ (gone .faulted).map Prod.fst = some .vacant
      ∧ (gone .queued).map Prod.fst = some .vacant := by decide

/-- B1 in QUEUED with bids 155 / 1,234 and its ADMIT entry. -/
def seeking : State :=
  (berth .queued fun u =>
      { u with vclass := some .hv11, bidMin := some 155, bidFull := some 1234, fullEff := some 1240, minEff := some 160 }).mapBudget
    fun f => { f with queue := [{ berth := .b1, kind := .admission, sought := 1240, minimum := 160, join := 1, passOver := 0 }],
                      joinCounter := 1 }

set_option maxRecDepth 8000 in
/-- A new trip source exposes B1 to its group's bus, closed and closing; a new class in QUEUED; a new rating at its ADMIT entry. -/
theorem test_witness_StoreWriteEnds_berth :
    let bus (s : State) : State := { s with lines := { s.lines with busA := true } }
    let own (s : State) := s.mapStore fun t => { t with inForce := ofB1 (fun g => { g with tripSource := .own }) t.inForce }
    let closed := own (bus (live (berth (.onShore .supplied))))
    let due := own (bus (ready (berth (.ready .openClose) fun u => { u with breakerCmd := some .close })))
    let q := seeking
    let cause (t : State) := ((t.bu .b1).st, (t.bu .b1).lastFault)
    closed.selectedTrip .b1 = none ∧ due.closeOutstanding .b1 = true ∧ due.cls .b1 = .f50
      ∧ after (.storeWriteComplete true) (writing (ofB1 fun g => { g with tripSource := .either }) closed) cause
        = some (.faulted, some .tripGroup)
      ∧ after (.storeWriteComplete true) (writing (ofB1 fun g => { g with tripSource := .either }) due) cause
        = some (.faulted, some .tripGroup)
      ∧ after (.storeWriteComplete true) (writing (ofB1 fun g => { g with vclass := .hv6 }) q) cause
        = some (.faulted, some .classMismatch)
      ∧ after (.storeWriteComplete true) (writing (ofB1 fun g => { g with outletRating := 1000 }) q)
          (fun t => ((t.bu .b1).fullEff, t.budget.queue.map AdmEntry.sought)) = some (some 1000, [1000]) := by decide

/-- The units of those states are as the statement asks: nothing held, and what waits stands in the state it belongs to. -/
theorem test_witness_StoreWriteEnds_placed (f : Settings → Settings) (st : BState) (h : st.mayHoldPermit = false) :
    let s := writing f (live (berth st))
    PermitApart s ∧ TestsApart s ∧ AllPlaced s ∧ (∀ b : Berth, (s.bu b).grant = 0) ∧ ∀ m ∈ s.bank.proofList, False := by
  refine ⟨permitApart_of_free _ rfl rfl, testsApart_of_one _ rfl rfl, allPlaced_of_free _ rfl rfl fun b => ⟨nofun, fun k => ?_, ?_, ?_⟩,
    fun b => ?_, nofun⟩
  · cases b
    · exact absurd (show st.mayHoldPermit = true from k) (by simp [h])
    all_goals cases k
  all_goals cases b <;> rfl

theorem test_witness_StoreWriteEnds_seeking (f : Settings → Settings) :
    let s := writing f seeking
    PermitApart s ∧ TestsApart s ∧ AllPlaced s ∧ (s.bu .b1).st = .queued ∧ (s.bu .b1).bidMin = some 155 := by
  refine ⟨permitApart_of_free _ rfl rfl, testsApart_of_one _ rfl rfl, allPlaced_of_free _ rfl rfl fun b => ?_, rfl, rfl⟩
  cases b
  · exact ⟨fun _ => rfl, nofun, rfl, rfl⟩
  all_goals exact ⟨nofun, nofun, rfl, rfl⟩

theorem test_witness_ChannelTimersRepeat :
    let s := State.reset.mapCh .b1 fun c => { c with shoreBeacon := some 1000, callRepeat := some 2000 }
    s.powered = true ∧ (s.ch .b1).shoreBeacon = some 1000 ∧ (s.ch .b1).callRepeat = some 2000 := by decide

theorem test_witness_LinkLossByState (st : BState) :
    let s := (berth st).mapCh .b1 fun c => { c with link := .up, loss := some 5000 }
    s.powered = true ∧ PermitApart s ∧ (s.ch .b1).loss = some 5000 ∧ (s.bu .b1).st = st ∧ (s.bu .b1).detachSeen = false :=
  ⟨rfl, permitApart_of_free _ rfl rfl, rfl, rfl, rfl⟩

/-- A HELLO that is accepted, and one for each refusal, in CALLING and EARTHED. -/
theorem test_witness_HelloConnects :
    (berth (.probe .calling)).powered = true ∧ hello.wellFormed = true ∧ PermitApart (berth (.probe .calling))
      ∧ (∀ e ∈ (berth (.probe .calling)).transfer.line, e.berth ≠ .b1) ∧ ((berth (.probe .calling)).bu .b1).detachSeen = false
      ∧ ((berth (.probe .calling)).bu .b1).st = .probe .calling
      ∧ ((berth (.released .earthed)).bu .b1).st = .released .earthed
      ∧ hello.vclass = ((berth (.probe .calling)).bset .b1).vclass ∧ { hello with vclass := .hv6 }.wellFormed = true
      ∧ { hello with sclass := .f60 }.wellFormed = true ∧ { hello with modes := .opened }.wellFormed = true :=
  ⟨rfl, by decide, permitApart_of_free _ rfl rfl, by decide, rfl, rfl, rfl, rfl, by decide, by decide, by decide⟩

/-- A HELLO in every state, at a berth of the same classes, of others, and adopted. -/
theorem test_witness_HelloByState (st : BState) :
    let s := berth st fun u => { u with vclass := some .hv11, sclass := some .f50 }
    s.powered = true ∧ hello.wellFormed = true ∧ PermitApart s ∧ (s.bu .b1).st = st ∧ (s.bu .b1).vclass = some hello.vclass
      ∧ (s.bu .b1).sclass = some hello.sclass ∧ some (VClass.hv6) ≠ some hello.vclass ∧ (s.bu .b1).answered = false
      ∧ s.resumeRefusal .b1 { hello with resume := true, gens := 0 } = none :=
  ⟨rfl, by decide, permitApart_of_free _ rfl rfl, rfl, rfl, rfl, by decide, rfl, rfl⟩

/-- A berth answered in ADOPTED while B2 has not answered, and an adopted ON_SHORE berth, of the HELLO's classes. -/
theorem test_witness_HelloByState_answered :
    let s := (berth .adopted fun u => { u with vclass := some .hv11, sclass := some .f50, answered := true }).mapBu .b2 fun u =>
      { u with st := .adopted }
    let o := berth (.onShore .supplied) fun u => { u with adoptedMark := true }
    s.powered = true ∧ PermitApart s ∧ (s.bu .b1).answered = true ∧ Berth.b2 ≠ .b1 ∧ s.unanswered .b2 = true
      ∧ s.resumeRefusal .b2 { hello with resume := true } = none ∧ (o.bu .b1).adoptedMark = true ∧ LinkStands o .b1
      ∧ o.resumeRefusal .b1 { hello with resume := true } = none := by
  exact ⟨rfl, permitApart_of_free _ rfl rfl, rfl, by decide, by decide, by decide, rfl, show _ ≠ _ by decide, by decide⟩

/-- The answer to the resume CALL refused, of an adopted berth and of one held in ON_SHORE; a class that is not recorded does not differ. -/
theorem test_witness_HelloByState_refused :
    let h := { hello with vclass := .hv6, resume := true }
    let o := berth (.onShore .supplied) fun u => { u with adoptedMark := true }
    (berth .adopted).resumeRefusal .b1 h = some .classMismatch ∧ ((berth .adopted).bu .b1).answered = false
      ∧ ((berth .adopted).bu .b1).detachSeen = false ∧ o.resumeRefusal .b1 h = some .classMismatch
      ∧ (o.bu .b1).detachSeen = false ∧ SameClasses ((berth .queued).bu .b1) hello = true
      ∧ SameClasses ((berth .queued fun u => { u with vclass := some .hv6 }).bu .b1) hello = false := by decide

theorem test_witness_BeaconIsRecorded (st : BState) :
    let s := linked (berth st fun u => { u with heldUnloaded := true })
    let r : Beacon := { gens := 0, load := 0, breakerClosed := true, busLive := true }
    s.powered = true ∧ r.wellFormed = true ∧ (s.bu .b1).st = st ∧ (s.bu .b1).heldUnloaded = true ∧ PermitApart s
      ∧ (LinkStands s .b1 ↔ st ≠ .onShore .linkHold) := ⟨rfl, by decide, rfl, rfl, permitApart_of_free _ rfl rfl, Iff.rfl⟩

/-- AWAIT_SHIP with both modes offered and OPEN allowed, on a dead cable with nothing against a close. -/
def awaiting : State :=
  let s := linked (ready (berth (.ready .awaitShip) fun u =>
    { u with modes := some .both, report := some { report with cableV := 20, cableF := none } }))
  s.mapStore fun t => { t with inForce := { t.inForce with
    berth := t.inForce.berth.set .b1 { t.inForce.berth.get .b1 with openAllowed := true } } }

theorem test_witness_TransferMessagesInAwaitShip :
    awaiting.powered = true ∧ (awaiting.bu .b1).st = .ready .awaitShip ∧ (awaiting.bu .b1).modes = some .both
      ∧ awaiting.cableLive .b1 = false ∧ (awaiting.bset .b1).openAllowed = true ∧ awaiting.cableDead .b1 = true
      ∧ awaiting.switch .b1 = some .opened ∧ (awaiting.ln .b1).pilotContinuous = true ∧ awaiting.selectedTrip .b1 = none
      ∧ awaiting.output (awaiting.bset .b1).group = false
      ∧ (awaiting.mapBu .b1 fun u => { u with report := some report }).cableLive .b1 = true
      ∧ (awaiting.mapBu .b1 fun u => { u with report := some report }).cableDead .b1 = false := by decide

/-- DARK with the close due at once: given, refused with each cause of its own, and withdrawn under a trip and a backup trip. -/
theorem test_witness_TransferMessagesInAwaitShip_close :
    let s := awaiting
    let e := s.mapLn .b1 fun l => { l with switchOpen := false }
    let p := s.mapLn .b1 fun l => { l with pilotContinuous := false }
    let t := s.mapLn .b1 fun l => { l with ownTrip := true }
    let k := { s with protect := { s.protect with holdersA := [{ berth := .b2, cleared := false }] } }
    let cause (t : State) := (t.bu .b1).lastFault
    s.closeRefusal .b1 = none ∧ e.closeRefusal .b1 = some .earthSwitch ∧ p.closeRefusal .b1 = some .pilotOpen
      ∧ t.closeRefusal .b1 = some .tripOwn ∧ k.closeRefusal .b1 = some .backupTrip
      ∧ after (.dark .b1) s (fun t => (t.bu .b1).breakerCmd) = some (some .close)
      ∧ after (.dark .b1) e cause = some (some .earthSwitch) ∧ after (.dark .b1) p cause = some (some .pilotOpen)
      ∧ after (.dark .b1) t cause = some (some .tripOwn) ∧ after (.dark .b1) k cause = some (some .backupTrip)
      ∧ (s.bu .b1).detachSeen = false := by decide

theorem test_witness_TransferProgressMessages (st : BState) :
    let s := linked (berth st fun u => { u with gens := some 0 })
    s.powered = true ∧ (s.bu .b1).st = st ∧ (s.bu .b1).gens = some 0 ∧ PermitApart s
      ∧ s.belowThreshold .b1 = false := ⟨rfl, rfl, rfl, permitApart_of_free _ rfl rfl, rfl⟩

/-- GENS_WAIT with a report already below the threshold of 50. -/
theorem test_witness_TransferProgressMessages_below :
    ((linked (berth (.returning .gensWait) fun u => { u with report := some { report with power := 49 } })).mapTransfer
      fun t => { t with threshold := t.threshold.set .b1 (some 50) }).belowThreshold .b1 = true := by decide

theorem test_witness_ByeByState (st : BState) :
    let s := linked (berth st)
    s.powered = true ∧ (s.bu .b1).st = st ∧ (s.bu .b1).detachSeen = false ∧ PermitApart s ∧ TestsApart s :=
  ⟨rfl, rfl, rfl, permitApart_of_free _ rfl rfl, testsApart_of_one _ rfl rfl⟩

theorem test_witness_PlugProximityActsByPresence (st : BState) :
    (berth st).powered = true ∧ PermitApart (berth st) ∧ ((berth st).bu .b1).st = st :=
  ⟨rfl, permitApart_of_free _ rfl rfl, rfl⟩

/-- Proximity makes B1 present while its loop is continuous, and its loss makes it absent. -/
theorem test_witness_PlugProximityActsByPresence_change :
    let s := State.reset.mapLn .b1 fun l => { l with pilotContinuous := true }
    s.present .b1 = false ∧ after (.plugProximityChange .b1 true) s (fun t => t.present .b1) = some true
      ∧ (ready .reset).present .b1 = true ∧ after (.plugProximityChange .b1 false) (ready .reset) (fun t => t.present .b1) = some false := by
  decide

/-- The loop of a berth whose detection source is PROXIMITY breaks without a presence change. -/
theorem test_witness_PilotLoopBreaks (st : BState) :
    let s := (live (berth st)).mapStore fun t => { t with inForce := { t.inForce with
      berth := t.inForce.berth.set .b1 { t.inForce.berth.get .b1 with detection := .proximity } } }
    s.powered = true ∧ PermitApart s ∧ (s.ln .b1).pilotContinuous = true ∧ s.breaker .b1 ≠ .opened ∧ (s.bu .b1).st = st
      ∧ (s.bu .b1).detachSeen = false ∧ s.present .b1 = true :=
  ⟨rfl, permitApart_of_free _ rfl rfl, rfl, by simp [State.breaker, State.ln, BerthLines.breaker, live,
    berth, State.mapLn, State.mapStore, State.mapBu, PerBerth.get, PerBerth.set], rfl, rfl, rfl⟩

/-- The loop of a RELEASED berth breaks without a presence change, and that of a berth in PROBE with one. -/
theorem test_witness_PilotLoopBreaks_presence :
    let s := (live (berth (.released .earthing))).mapStore fun t => { t with inForce := { t.inForce with
      berth := t.inForce.berth.set .b1 { t.inForce.berth.get .b1 with detection := .proximity } } }
    after (.pilotLoopOpen .b1) s (fun t => (t.present .b1, (t.bu .b1).st)) = some (true, .released .earthing)
      ∧ after (.pilotLoopOpen .b1) (live (berth (.probe .quiet))) (fun t => (t.present .b1, (t.bu .b1).st))
        = some (false, .vacant) := by decide

/-- A loop break, an own trip, a group bus and E-stop each withdraw the close that stands at B1. -/
theorem test_witness_PilotLoopBreaks_close :
    let s := (ready (berth (.sync .closing) fun u => { u with breakerCmd := some .close })).mapPb .b1 fun k =>
      { k with closeSup := some 500 }
    let left (t : State) := ((t.bu .b1).st, (t.bu .b1).breakerCmd, (t.pb .b1).closeSup)
    let gone : Option (BState × Option BreakerCmd × Timer) := some (.faulted, some .opening, none)
    s.exposed .b1 = true ∧ s.closeOutstanding .b1 = true
      ∧ after (.ownTripInputChange .b1 true) s left = gone ∧ after (.groupTripBusChange .a true) s left = gone
      ∧ after .estopActive s left = gone
      ∧ after (.pilotLoopOpen .b1) s (fun t => ((t.bu .b1).breakerCmd, (t.pb .b1).closeSup)) = some (some .opening, none) := by decide

theorem test_witness_ProbeAndTestTimers :
    let q := berth (.probe .quiet) fun u => { u with timers := { u.timers with quiet := some 2000 } }
    let c := berth (.probe .calling) fun u => { u with timers := { u.timers with contact := some 30000 } }
    let a := berth .adopted fun u => { u with timers := { u.timers with contact := some 30000 } }
    q.powered = true ∧ (q.bu .b1).st = .probe .quiet ∧ (q.bu .b1).timers.quiet = some 2000 ∧ q.switch .b1 = some .closed
      ∧ q.lines.estop = false ∧ (c.bu .b1).timers.contact = some 30000 ∧ (c.bu .b1).st = .probe .calling
      ∧ (a.bu .b1).timers.contact = some 30000 ∧ (a.bu .b1).st = .adopted
      ∧ (retest.bu .b1).st = .test .retestDelay ∧ (retest.bu .b1).timers.retest = some 60000 := by decide

/-- B1 the last unanswered berth of the resume round; B2 has answered with its generators off, B3 and B4 with them online. -/
def lastUnanswered : State :=
  let answered (n : Nat) (u : BerthUnit) : BerthUnit := { u with st := .adopted, answered := true, gens := some n, grant := 1000 }
  ((((live (berth .adopted fun u => { u with timers := { u.timers with contact := some 30000 } })).mapBu .b2 (answered 0)).mapBu .b3
    (answered 2)).mapBu .b4 (answered 1)).mapTransfer fun t => { t with resumeRound := true }

theorem test_witness_ProbeAndTestTimers_round :
    let s := lastUnanswered
    s.powered = true ∧ (s.bu .b1).timers.contact = some 30000 ∧ s.unanswered .b1 = true ∧ s.transfer.resumeRound = true
      ∧ ([.b2, .b3, .b4, .b5, .b6].all fun c => !s.unanswered c) = true ∧ s.answeredLoaded .b2 = false
      ∧ s.answeredLoaded .b3 = true ∧ s.transfer.holder = none ∧ s.loadedBefore .b3 = false ∧ s.loadedBefore .b4 = true
      ∧ after (.contactLimitExpiry .b1) s (fun t => ((t.bu .b2).st, (t.bu .b3).st, (t.bu .b4).st))
        = some (.onShore .supplied, .parallel, .returning .lineWait) := by decide

/-- The timers at a berth in QUIET, CALLING, ADOPTED and the retest delay, with no permit line; the round is not at its end. -/
theorem test_witness_ProbeAndTestTimers_permit (st : BState) (f : BerthUnit → BerthUnit) :
    PermitApart (berth st f) ∧ PermitApart lastUnanswered ∧ Rests lastUnanswered :=
  ⟨permitApart_of_free _ rfl rfl, permitApart_of_free _ rfl rfl, fun _ => by decide⟩

theorem test_witness_SelectorStepAndWatch :
    let p := ready (berth (.ready .preparing) fun u =>
      { u with sclass := some .f60, timers := { u.timers with selector := some 3000 } })
    let p := p.mapLn .b1 fun l => { l with switchClosed := true, switchOpen := false }
    let w := (ready (berth (.ready .awaitShip))).mapPb .b1 fun q => { q with selectorConfirmed := some .f60 }
    p.powered = true ∧ (p.bu .b1).st = .ready .preparing ∧ (p.bu .b1).sclass = some .f60
      ∧ (p.bu .b1).timers.selector = some 3000 ∧ (p.bu .b1).st ≠ .faulted ∧ (p.bu .b1).detachSeen = false
      ∧ p.switch .b1 ≠ some .opened ∧ (w.bu .b1).st ≠ .ready .preparing ∧ (w.bu .b1).selectorWatched = true
      ∧ (w.pb .b1).selectorConfirmed = some .f60 ∧ (w.pb .b1).selectorDisagree = none ∧ w.breaker .b1 = .opened
      ∧ w.closeOutstanding .b1 = false := by decide

/-- The same step with the earthing switch reported open already. -/
theorem test_witness_SelectorStepAndWatch_open :
    let p := ready (berth (.ready .preparing) fun u =>
      { u with sclass := some .f50, timers := { u.timers with selector := some 3000 } })
    (p.bu .b1).st = .ready .preparing ∧ (p.bu .b1).timers.selector.isSome = true ∧ p.switch .b1 = some .opened
      ∧ after (.selectorFeedback .b1 true false) p (fun t => (t.bu .b1).st) = some (.ready .awaitShip) := by decide

/-- The selector loses its confirmed position under a closed breaker. -/
theorem test_witness_SelectorStepAndWatch_closed :
    let c := (live (berth (.onShore .supplied))).mapPb .b1 fun q => { q with selectorConfirmed := some .f50 }
    (c.bu .b1).selectorWatched = true ∧ c.breaker .b1 = .closed ∧ (c.bu .b1).detachSeen = false
      ∧ after (.selectorFeedback .b1 false false) c (fun t => ((t.bu .b1).lastFault, (t.bu .b1).breakerCmd))
        = some (some .selector, some .opening) := by decide

/-- The selector loses its confirmed position while a close command stands. -/
theorem test_witness_SelectorStepAndWatch_closing :
    let o := (ready (berth (.sync .closing) fun u => { u with breakerCmd := some .close })).mapPb .b1 fun q =>
      { q with selectorConfirmed := some .f50, closeSup := some 500 }
    (o.bu .b1).selectorWatched = true ∧ o.breaker .b1 = .opened ∧ o.closeOutstanding .b1 = true
      ∧ after (.selectorFeedback .b1 false true) o (fun t => ((t.bu .b1).lastFault, (t.bu .b1).breakerCmd))
        = some (some .selector, some .opening) := by decide

theorem test_witness_SelectorStepAndWatch_permit (st : BState) (f : BerthUnit → BerthUnit) (g : ProtBerth → ProtBerth) :
    PermitApart (ready (berth st f)) ∧ PermitApart ((ready (berth st f)).mapPb .b1 g) ∧ PermitApart ((live (berth st f)).mapPb .b1 g) :=
  ⟨permitApart_of_free _ rfl rfl, permitApart_of_free _ rfl rfl, permitApart_of_free _ rfl rfl⟩

theorem test_witness_EarthSwitchFeedbackActs :
    let e := berth (.released .earthing) fun u => { u with earthing := .closing, switchCmd := some .closed }
    let p := ready (berth (.ready .preparing) fun u => { u with timers := { u.timers with earthSwitch := some 2000 } })
    let w := berth .queued
    e.powered = true ∧ e.servedBy .b1 = none ∧ e.breaker .b1 = .opened ∧ e.closeOutstanding .b1 = false
      ∧ (e.bu .b1).st = .released .earthing ∧ (e.bu .b1).earthing ≠ .idle ∧ (e.bu .b1).switchCmd = some .closed
      ∧ p.servedBy .b1 = none ∧ p.breaker .b1 = .opened ∧ p.closeOutstanding .b1 = false ∧ (p.bu .b1).st = .ready .preparing
      ∧ (p.bu .b1).timers.earthSwitch.isSome = true ∧ (p.bu .b1).earthing = .idle ∧ w.servedBy .b1 = none
      ∧ w.breaker .b1 = .opened ∧ w.closeOutstanding .b1 = false ∧ (w.bu .b1).st = .queued ∧ (w.bu .b1).earthing = .idle
      ∧ (w.bu .b1).switchCmd = none ∧ (w.pb .b1).switchConfirmed = some .closed := by decide

/-- QUIET with its timer expired; the confirmed position reported again; the switch lost under a closed breaker, in SUPPLIED and BLOCKED. -/
theorem test_witness_EarthSwitchFeedbackActs_watch :
    let q := berth (.probe .quiet) fun u => { u with quietDone := true }
    let c := (live (berth (.onShore .supplied))).mapPb .b1 fun k =>
      { k with switchConfirmed := some .closed, switchDisagree := some 2000 }
    q.servedBy .b1 = none ∧ q.breaker .b1 = .opened ∧ q.closeOutstanding .b1 = false ∧ (q.bu .b1).quietDone = true
      ∧ q.lines.estop = false ∧ after (.earthSwitchFeedback .b1 true false) q (fun t => (t.bu .b1).st) = some (.probe .calling)
      ∧ (c.pb .b1).switchConfirmed = some .closed ∧ c.breaker .b1 = .closed ∧ c.servedBy .b1 = none
      ∧ (c.bu .b1).detachSeen = false
      ∧ after (.earthSwitchFeedback .b1 true false) c (fun t => ((t.bu .b1).st, (t.bu .b1).lastFault, (t.pb .b1).switchDisagree))
        = some (.faulted, some .earthSwitch, none)
      ∧ after (.earthSwitchFeedback .b1 true true) (live (berth .blocked)) (fun t => ((t.bu .b1).st, (t.bu .b1).lastFault))
        = some (.blocked, some .earthSwitch) := by decide

theorem test_witness_EarthSwitchFeedbackActs_permit (st : BState) : PermitApart ((live (berth st)).mapPb .b1 fun k =>
    { k with switchConfirmed := some .closed, switchDisagree := some 2000 }) := permitApart_of_free _ rfl rfl

theorem test_witness_EarthingProcedureTimers :
    let l := berth (.released .earthing) fun u => { u with earthing := .closing, timers := { u.timers with earthSwitch := some 2000 } }
    earthed.powered = true ∧ (earthed.bu .b1).timers.discharge = some 5000 ∧ earthed.breaker .b1 = .opened
      ∧ earthed.cableDead .b1 = true ∧ (l.bu .b1).timers.earthSwitch = some 2000 ∧ (l.bu .b1).st ≠ .blocked
      ∧ (l.bu .b1).st ≠ .faulted ∧ (l.bu .b1).detachSeen = false := by decide

theorem test_witness_EarthingProcedureTimers_permit (f : BerthUnit → BerthUnit) : PermitApart (berth (.released .earthing) f) :=
  permitApart_of_free _ rfl rfl

/-- Each of the four limits, due at its boundary. -/
theorem test_witness_BerthLimitsExpire :
    let s := live (berth (.ready .cableCheck) fun u =>
      { u with timers := { u.timers with cable := some 5000, takeBack := some 180000, answer := some 60000, ready := some 600000 } })
    s.powered = true ∧ (s.bu .b1).timers.cable = some 5000 ∧ (s.bu .b1).timers.takeBack = some 180000
      ∧ (s.bu .b1).timers.answer = some 60000 ∧ (s.bu .b1).timers.ready = some 600000 ∧ (s.bu .b1).st ≠ .faulted
      ∧ (s.bu .b1).detachSeen = false ∧ PermitApart s ∧ (s.bu .b1).st ≠ .adopted := by
  exact ⟨rfl, rfl, rfl, rfl, rfl, by decide, rfl, permitApart_of_free _ rfl rfl, by decide⟩

/-- The ready limit in AWAIT_SHIP after GRANT. -/
theorem test_witness_BerthLimitsExpire_grant :
    let s := linked (ready (berth (.ready .awaitShip) fun u =>
      { u with grantSent := true, grant := 1000, minEff := some 400, fullEff := some 1000,
               timers := { u.timers with ready := some 600000 } }))
    (s.bu .b1).grantSent = true ∧ after (.readyLimitExpiry .b1) s (fun t => ((t.bu .b1).st, (t.ch .b1).sending))
      = some (.queued, some (.grant 0 (some 400) (some 1000) false)) := by decide

/-- A valid report, and an invalid one at the permit holder and at another berth. -/
theorem test_witness_MeterReportBecomesCurrent :
    let s := (ready (berth (.sync .checking) fun u => { u with timers := { u.timers with freshness := some 500 } })).mapTransfer
      fun t => { t with holder := some .b1 }
    s.powered = true ∧ report.validMark = true
      ∧ frequencyOk (sideFrequency (s.vn .b1) report.supplyV report.supplyF) = true
      ∧ frequencyOk (sideFrequency (s.vn .b1) report.cableV report.cableF) = true
      ∧ frequencyOk (some 45000) = true ∧ frequencyOk (some 44999) = false ∧ frequencyOk (some 65000) = true
      ∧ frequencyOk (some 65001) = false ∧ s.transfer.holder = some .b1 ∧ s.transfer.holder ≠ some .b2
      ∧ (s.bu .b1).st = .sync .checking ∧ (s.bu .b1).timers.freshness = some 500 := by decide

/-- The report of a dead cable, and that of a dead supply. -/
def deadCable : MeterReport := { report with cableV := 1099, cableF := none }

def deadSupply : MeterReport := { report with supplyV := 1099, supplyF := none }

/-- What a report leaves of B1 in a state. -/
def metered {α : Type} (r : MeterReport) (s : State) (f : State → α) : Option α := after (.meterReport .b1 r) s f

/-- A supply shown dead at a berth marked backup-pending; a live cable and one below 90 % in CABLE_CHECK; a live one in OPEN_CLOSE. -/
theorem test_witness_MeterReportBecomesCurrent_conditions :
    let p := (live (berth (.onShore .supplied))).mapPb .b1 fun k => { k with backupPending := some .a }
    let c := linked (ready (berth (.ready .cableCheck) fun u => { u with timers := { u.timers with cable := some 5000 } }))
    p.powered = true ∧ (p.pb .b1).backupPending.isSome = true ∧ 10 * deadSupply.supplyV < p.vn .b1
      ∧ metered deadSupply p (fun t => ((t.bu .b1).st, (t.bu .b1).lastFault)) = some (.faulted, some .backupTrip)
      ∧ (c.pb .b1).backupPending = none ∧ 9 * c.vn .b1 ≤ 10 * report.cableV
      ∧ metered report c (fun t => ((t.bu .b1).st, (t.bu .b1).timers.cable)) = some (.sync .checking, none)
      ∧ metered { report with cableV := 9899 } c (fun t => (t.bu .b1).st) = some (.ready .cableCheck)
      ∧ closing.selectedTrip .b1 = none ∧ closing.output (closing.bset .b1).group = false ∧ closing.switch .b1 = some .opened
      ∧ metered report closing (fun t => (t.bu .b1).breakerCmd) = some none := by decide

/-- Power at and below the threshold of 50; the earthing procedure's wait and its discharge interval on a dead cable and a live one. -/
theorem test_witness_MeterReportBecomesCurrent_return :
    let r := (live (berth (.returning .returnParallel))).mapTransfer fun t =>
      { t with holder := some .b1, returnParallel := some 90000, threshold := t.threshold.set .b1 (some 50) }
    let e := ready (berth (.released .earthing) fun u => { u with earthing := .waiting })
    metered { report with power := 49 } r (fun t => ((t.bu .b1).st, t.transfer.returnParallel)) = some (.returning .separating, none)
      ∧ metered { report with power := 50 } r (fun t => (t.bu .b1).st) = some (.returning .returnParallel)
      ∧ metered deadCable e (fun t => ((t.bu .b1).earthing, (t.bu .b1).timers.discharge)) = some (.discharging, some 5000)
      ∧ metered { report with cableV := 1100 } earthed (fun t => ((t.bu .b1).earthing, (t.bu .b1).timers.discharge))
        = some (.waiting, none)
      ∧ metered deadCable (ready (berth .blocked fun u => { u with earthing := .waiting })) (fun t => (t.bu .b1).earthing)
        = some .discharging
      ∧ metered deadCable (ready (berth (.probe .quiet) fun u => { u with earthing := .waiting })) (fun t => (t.bu .b1).earthing)
        = some .discharging := by decide

/-- The holder's check with this many reports in window behind it. -/
def checking (n : Nat) : State :=
  (linked (ready (berth (.sync .checking)))).mapTransfer fun t => { t with holder := some .b1, dwell := t.dwell.set .b1 n }

/-- A report in window counts, one out of it and one without a cable frequency end the count; CLOSING has its MATCH too. -/
theorem test_witness_MeterReportBecomesCurrent_dwell :
    let dwell (t : State) := ((t.bu .b1).st, t.transfer.dwell.get .b1)
    metered report (checking 0) dwell = some (.sync .checking, 1)
      ∧ metered report (checking 2) dwell = some (.sync .closing, 0)
      ∧ metered { report with phase := 2000 } (checking 2) dwell = some (.sync .checking, 0)
      ∧ metered deadCable (checking 2) dwell = some (.sync .checking, 0)
      ∧ metered report ((linked (ready (berth (.sync .closing)))).mapTransfer fun t => { t with holder := some .b1 })
          (fun t => (t.ch .b1).sending) = some (some (.match_ (-60) 336 (-13) true)) := by decide

/-- A close due by a report, in OPEN_CLOSE and by the dwell, turned away under a trip and at a switch not reported open. -/
theorem test_witness_MeterReportBecomesCurrent_refused :
    let trip (s : State) := s.mapLn .b1 fun l => { l with ownTrip := true }
    let shut (s : State) := s.mapLn .b1 fun l => { l with switchOpen := false }
    let cause (t : State) := ((t.bu .b1).st, (t.bu .b1).lastFault)
    (trip closing).closeRefusal .b1 = some .tripOwn ∧ (shut (checking 2)).closeRefusal .b1 = some .earthSwitch
      ∧ closing.closeRefusal .b1 = none ∧ (checking 2).closeRefusal .b1 = none
      ∧ metered deadCable (trip closing) cause = some (.faulted, some .tripOwn)
      ∧ metered deadCable (shut closing) cause = some (.faulted, some .earthSwitch)
      ∧ metered report (trip (checking 2)) cause = some (.faulted, some .tripOwn)
      ∧ metered report (shut (checking 2)) cause = some (.faulted, some .earthSwitch) := by decide

/-- Reverse power in PARALLEL and its end; overdraw in ON_SHORE, once begun and begun before, and its end. -/
theorem test_witness_MeterReportBecomesCurrent_power :
    let p := (live (berth .parallel fun u => { u with grant := 1000 })).mapTransfer fun t => { t with holder := some .b1 }
    let q := p.mapTransfer fun t => { t with reverse := some 2000 }
    let o := linked (live (berth (.onShore .supplied) fun u => { u with grant := 1000 }))
    let w := o.mapPb .b1 fun k => { k with overdraw := some { due := 9, grant := 8, kva := 7 } }
    (metered { report with power := -3000 } p fun t => t.transfer.reverse.isSome) = some true
      ∧ metered report q (fun t => t.transfer.reverse) = some none
      ∧ metered { report with power := 3000 } o (fun t => (t.ch .b1).sending) = some (some (.warnOverdraw 1000 3000))
      ∧ metered { report with power := 3000 } w (fun t => (t.pb .b1).overdraw) = some (some { due := 9, grant := 8, kva := 7 })
      ∧ metered report w (fun t => (t.pb .b1).overdraw) = some none := by decide

/-- A berth marked backup-pending, with no permit line. -/
theorem test_witness_MeterReportBecomesCurrent_permit :
    PermitApart ((live (berth (.onShore .supplied))).mapPb .b1 fun k => { k with backupPending := some .a }) :=
  permitApart_of_free _ rfl rfl

/-- The permit holder under each of the Transfer Unit's timers; two attempts are made, a third is not. -/
theorem test_witness_TransferTimersAtHolder :
    let s := (live (berth (.sync .checking) fun u => { u with syncAttempts := 1 })).mapTransfer fun t =>
      { t with holder := some .b1, sync := some 120000, parallel := some 60000, reverse := some 2000, gensOn := some 120000,
               returnParallel := some 90000 }
    s.powered = true ∧ s.transfer.holder = some .b1 ∧ (s.bu .b1).st ≠ .faulted ∧ (s.bu .b1).detachSeen = false
      ∧ s.transfer.sync = some 120000 ∧ s.transfer.parallel = some 60000 ∧ s.transfer.reverse = some 2000
      ∧ s.transfer.gensOn = some 120000 ∧ s.transfer.returnParallel = some 90000 ∧ ¬ 2 ≤ (s.bu .b1).syncAttempts := by decide

/-- A holder's state is apart, and a fault of one whose breaker is closed is reported: FAULT is posted and OPENED sent. -/
theorem test_witness_TransferTimersAtHolder_permit :
    let s := (linked (live (berth .parallel))).mapTransfer fun t => { t with holder := some .b1, parallel := some 60000 }
    PermitApart ((live (berth (.sync .checking))).mapTransfer fun t => { t with holder := some .b1 }) ∧ PermitApart s
      ∧ s.hadClosed .b1 = true ∧ s.port.overflow = false
      ∧ after .parallelTimerExpiry s (fun t => ((t.ch .b1).sending, t.port.noticeLine.map NumberedNotice.notice))
        = some (some (.opened (.fault .parallelOverrun)), [.berthState .b1 .faulted 0, .fault .b1 .parallelOverrun]) := by
  refine ⟨permitApart_of_held _ rfl rfl fun b => ?_, permitApart_of_held _ rfl rfl fun b => ?_, by decide, rfl, by decide⟩
  all_goals cases b <;> decide

theorem test_witness_BreakerFeedbackActs :
    let c := ready (berth (.sync .closing) fun u => { u with breakerCmd := some .close })
    let o := ready (berth (.ready .openClose) fun u => { u with breakerCmd := some .close })
    let r := live (berth (.returning .separating) fun u => { u with breakerCmd := some .opening })
    let u := live (berth (.onShore .supplied))
    let q := berth .queued
    let f := berth .faulted
    c.powered = true ∧ c.breaker .b1 ≠ .closed ∧ (c.bu .b1).breakerCmd = some .close ∧ (c.bu .b1).st = .sync .closing
      ∧ o.breaker .b1 ≠ .closed ∧ (o.bu .b1).breakerCmd = some .close ∧ (o.bu .b1).st = .ready .openClose
      ∧ r.breaker .b1 ≠ .opened ∧ (r.bu .b1).breakerCmd = some .opening ∧ (r.bu .b1).detachSeen = false
      ∧ (r.bu .b1).st = .returning .separating ∧ u.breaker .b1 = .closed ∧ (u.bu .b1).breakerCmd = none
      ∧ (u.bu .b1).detachSeen = false ∧ (u.bu .b1).st.supplied = true ∧ q.breaker .b1 = .opened
      ∧ (q.bu .b1).breakerCmd = none ∧ (q.bu .b1).detachSeen = false ∧ (q.bu .b1).st.supplied = false
      ∧ f.breaker .b1 = .opened ∧ (f.bu .b1).breakerCmd = none ∧ (f.bu .b1).st = .faulted ∧ c.switch .b1 = some .opened
      ∧ o.switch .b1 = some .opened := by decide

/-- CLOSED straight to OPEN and both contacts asserted; OPEN straight to CLOSED with the earthing switch open and with it closed. -/
theorem test_witness_BreakerFeedbackActs_unexplained :
    let cause (t : State) := ((t.bu .b1).st, (t.bu .b1).lastFault)
    let supplied := live (berth (.onShore .supplied))
    after (.breakerFeedback .b1 false true) supplied cause = some (.faulted, some .tripOwn)
      ∧ after (.breakerFeedback .b1 true true) supplied cause = some (.faulted, some .tripOwn)
      ∧ after (.breakerFeedback .b1 true true) (berth .blocked) cause = some (.faulted, some .breakerClose)
      ∧ after (.breakerFeedback .b1 true false) (ready (berth .queued)) cause = some (.faulted, some .breakerClose)
      ∧ (berth .queued).switch .b1 ≠ some .opened
      ∧ after (.breakerFeedback .b1 true false) (berth .queued) cause = some (.faulted, some .earthSwitch) := by decide

/-- Open feedback lets a cleared holder leave, and keeps one that is not cleared. -/
theorem test_witness_BreakerFeedbackActs_holder :
    let h (c : Bool) : State :=
      { live (berth .faulted) with protect := { (live (berth .faulted)).protect with holdersA := [{ berth := .b1, cleared := c }] } }
    (h true).breaker .b1 ≠ .opened ∧ (h true).closeOutstanding .b1 = false
      ∧ after (.breakerFeedback .b1 false true) (h true) (fun t => t.holders .a) = some []
      ∧ after (.breakerFeedback .b1 false true) (h false) (fun t => (t.holders .a).length) = some 1 := by decide

theorem test_witness_BreakerFeedbackActs_permit (st : BState) (f : BerthUnit → BerthUnit) :
    PermitApart (berth st f) ∧ PermitApart (ready (berth st f)) ∧ PermitApart (live (berth st f)) :=
  ⟨permitApart_of_free _ rfl rfl, permitApart_of_free _ rfl rfl, permitApart_of_free _ rfl rfl⟩

/-- Both supervisions of B1, due after 500 ms. -/
def supervised (st : BState) : State := (live (berth st)).mapPb .b1 fun p => { p with closeSup := some 500, openSup := some 500 }

theorem test_witness_BreakerSupervisionExpires :
    (supervised .queued).powered = true ∧ ((supervised .queued).pb .b1).closeSup = some 500
      ∧ ((supervised .queued).pb .b1).openSup = some 500 ∧ ((supervised .queued).bu .b1).st ≠ .faulted
      ∧ ((supervised .queued).bu .b1).detachSeen = false ∧ PermitApart (supervised .queued) ∧ TestsApart (supervised .queued)
      ∧ (supervised .queued).breaker .b1 ≠ .opened :=
  ⟨rfl, rfl, rfl, by decide, rfl, permitApart_of_free _ rfl rfl, testsApart_of_one _ rfl rfl, by decide⟩

/-- The open supervision left by a close withdrawn at a breaker that has stayed open. -/
theorem test_witness_BreakerSupervisionExpires_open :
    let s := (ready (berth .faulted fun u => { u with breakerCmd := some .opening })).mapPb .b1 fun p => { p with openSup := some 500 }
    s.powered = true ∧ (s.pb .b1).openSup = some 500 ∧ s.breaker .b1 = .opened
      ∧ after (.openSupervisionExpiry .b1) s (fun t => ((t.bu .b1).breakerCmd, (t.pb .b1).openSup)) = some (none, none) := by decide

/-- B1's breaker fails to open with B2 and B3 of its group on supply, B3's supply shown dead. -/
theorem test_witness_BreakerSupervisionExpires_group :
    let onSupply (b : Berth) (r : Option MeterReport) (s : State) : State :=
      (s.mapLn b fun l => { l with breakerClosed := true, breakerOpen := false }).mapBu b fun u =>
        { u with st := .onShore .supplied, report := r }
    let s := onSupply .b3 (some deadSupply) (onSupply .b2 (some report) (supervised .queued))
    (s.bset .b2).group = (s.bset .b1).group ∧ s.breaker .b2 = .closed ∧ (s.bu .b2).st ≠ .faulted ∧ s.supplyDead .b2 = false
      ∧ (s.bset .b3).group = (s.bset .b1).group ∧ s.breaker .b3 = .closed ∧ s.supplyDead .b3 = true
      ∧ after (.openSupervisionExpiry .b1) s (fun t => ((t.pb .b2).backupPending, (t.bu .b3).lastFault))
        = some (some .a, some .backupTrip) := by decide

theorem test_witness_TripInputsFaultExposedBerths :
    let s := live (berth (.onShore .supplied))
    s.powered = true ∧ s.hadClosed .b1 = true ∧ NoForwardStepWaits s .b1 ∧ PermitApart s
      ∧ (s.ln .b1).ownTrip = false ∧ (s.bu .b1).detachSeen = false
      ∧ (s.bset .b1).tripSource ≠ .group ∧ s.exposed .b1 = true ∧ s.exposed .b2 = false ∧ s.bus .a = false
      ∧ (s.bset .b1).group = .a ∧ (s.bset .b1).tripSource ≠ .own ∧ TestsApart s :=
  ⟨rfl, by decide, ⟨nofun, nofun⟩, permitApart_of_free _ rfl rfl, rfl, rfl, by decide, by decide, by decide, rfl, rfl, by decide,
    testsApart_of_one _ rfl rfl⟩

theorem test_witness_EstopFaultsConnectedBerths :
    let s := live (berth (.onShore .supplied))
    let p := (berth (.probe .calling)).mapLn .b1 id
    s.powered = true ∧ s.hadClosed .b1 = true ∧ NoForwardStepWaits s .b1 ∧ PermitApart s ∧ s.lines.estop = false
      ∧ (s.bu .b1).st.connected = true ∧ (s.bu .b1).detachSeen = false
      ∧ s.breaker .b1 ≠ .opened ∧ (∀ e ∈ p.transfer.line, e.berth ≠ .b1) ∧ (p.bu .b1).st = .probe .calling
      ∧ (∀ e ∈ p.tests.queue, e.berth ≠ .b1)
      ∧ ({ p with lines := { p.lines with estop := true } } : State).lines.estop = true :=
  ⟨rfl, by decide, ⟨nofun, nofun⟩, permitApart_of_free _ rfl rfl, rfl, rfl, rfl, by decide, by decide, rfl, by decide, rfl⟩

theorem test_witness_WatchTimersFault :
    let s := (live (berth (.onShore .supplied))).mapPb .b1 fun p =>
      { p with switchDisagree := some 2000, selectorDisagree := some 3000, overdraw := some { due := 60000, grant := 100, kva := 120 } }
    s.powered = true ∧ s.hadClosed .b1 = true ∧ PermitApart s ∧ (s.bu .b1).st ≠ .faulted ∧ (s.bu .b1).st ≠ .blocked
      ∧ (s.bu .b1).detachSeen = false ∧ (s.pb .b1).switchDisagree = some 2000 ∧ (s.pb .b1).selectorDisagree = some 3000
      ∧ (s.pb .b1).overdraw = some { due := 60000, grant := 100, kva := 120 } :=
  ⟨rfl, by decide, permitApart_of_free _ rfl rfl, by decide, by decide, rfl, rfl, rfl, rfl⟩

/-- A disagreement timer in BLOCKED records its cause alone, in FAULTED it replaces the one recorded. -/
theorem test_witness_WatchTimersFault_kept :
    let s (st : BState) := (berth st fun u => { u with lastFault := some .tripOwn }).mapPb .b1 fun p =>
      { p with switchDisagree := some 2000, selectorDisagree := some 3000 }
    let cause (t : State) := ((t.bu .b1).st, (t.bu .b1).lastFault)
    after (.earthSwitchDisagreementExpiry .b1) (s .blocked) cause = some (.blocked, some .earthSwitch)
      ∧ after (.selectorDisagreementExpiry .b1) (s .faulted) cause = some (.faulted, some .selector) := by decide

theorem test_witness_WatchTimersFault_kept_permit (st : BState) (f : BerthUnit → BerthUnit) (g : ProtBerth → ProtBerth) :
    PermitApart ((berth st f).mapPb .b1 g) := permitApart_of_free _ rfl rfl

/-- IT-A serves B1 alone and no berth waits. -/
theorem testsApart_testing (r : UnitRec) : TestsApart (testing r) := testsApart_of_one _ rfl rfl

/-- The berth under test is none in ADOPTED. -/
theorem permitApart_testing (r : UnitRec) : PermitApart (testing r) :=
  permitApart_of_held _ rfl rfl fun b h => by cases b <;> cases h

/-- The earth limit of 400 passes, 401 fails. -/
theorem test_witness_EarthPhaseEnds :
    let s := testing { UnitRec.free with status := .earth, earthInterval := some 2000 }
    s.powered = true ∧ TestsApart s ∧ PermitApart s ∧ (s.unit .a).berth = some .b1 ∧ (s.unit .a).earthInterval = some 2000
      ∧ ¬ s.set.earthLimit < 400 ∧ s.set.earthLimit < 401 ∧ (s.bu .b1).st = .test .testing ∧ (s.bu .b1).detachSeen = false
      ∧ s.switch .b1 = some .opened :=
  ⟨rfl, testsApart_testing _, permitApart_testing _, rfl, rfl, by decide, by decide, rfl, rfl, rfl⟩

/-- The third attempt may hop, the fourth may not; 10 megohm is a PASS, 9 a FAIL. -/
theorem test_witness_MeasurementEnds :
    let s := testing { UnitRec.free with status := .insulation, attempt := 3, measurement := some 10000 }
    s.powered = true ∧ (s.unit .a).berth = some .b1 ∧ (s.unit .a).measurement = some 10000 ∧ (s.unit .a).attempt < 4
      ∧ (s.unit .a).shorted = false ∧ ¬ (4 : Nat) < 4 ∧ s.set.insulationMin ≤ 10 ∧ ¬ s.set.insulationMin ≤ 9 := by decide

theorem test_witness_ClosingStepEnds :
    let s := testing { UnitRec.free with status := .closing, attempt := 1, verdict := some .pass, discharge := some 1000,
                                         switchLimit := some 1000 }
    s.powered = true ∧ TestsApart s ∧ PermitApart s ∧ (s.unit .a).berth = some .b1 ∧ (s.bu .b1).st = .test .testing
      ∧ (s.bu .b1).detachSeen = false ∧ (s.unit .a).discharge = some 1000 ∧ (s.unit .a).verdict = some .pass
      ∧ s.switch .b1 ≠ some .closed ∧ s.breaker .b1 = .opened ∧ 10 * 1099 < s.vn .b1 ∧ ¬ 10 * 1100 < s.vn .b1
      ∧ (s.unit .a).switchLimit = some 1000 ∧ (s.unit .a).status = .closing :=
  ⟨rfl, testsApart_testing _, permitApart_testing _, rfl, rfl, rfl, rfl, rfl, by decide, rfl, by decide, by decide, rfl, rfl⟩

/-- A PASS awaiting the end of its closing step. -/
def passed (c : UnitRec) : State := testing { c with status := .closing, attempt := 1, verdict := some .pass }

/-- The feedback that ends each step of a test, and the closing step at a switch reported closed already. -/
theorem test_witness_ClosingStepEnds_feedback :
    let o := testing { UnitRec.free with status := .opening, switchLimit := some 2000 }
    let i := testing { UnitRec.free with status := .insulation, attempt := 1 }
    let c := passed { UnitRec.free with switchLimit := some 2000 }
    let n (k : Nat) := (testing { UnitRec.free with status := .closing, verdict := some .inconclusive, switchLimit := some 2000 }).mapBu
      .b1 fun u => { u with retestCount := k }
    let d := (passed { UnitRec.free with discharge := some 1000 }).mapLn .b1 fun l => { l with switchClosed := true, switchOpen := false }
    o.breaker .b1 = .opened ∧ o.closeOutstanding .b1 = false
      ∧ after (.earthSwitchFeedback .b1 false true) o (fun t => ((t.unit .a).status, (t.unit .a).attempt)) = some (.insulation, 1)
      ∧ after (.earthSwitchFeedback .b1 true true) i (fun t => (t.unit .a).shorted) = some true
      ∧ after (.earthSwitchFeedback .b1 true false) c (fun t => ((t.bu .b1).st, t.budget.queue.length)) = some (.queued, 1)
      ∧ after (.earthSwitchFeedback .b1 true false) (n 1) (fun t => (t.bu .b1).st) = some (.test .retestDelay)
      ∧ after (.earthSwitchFeedback .b1 true false) (n 2) (fun t => (t.bu .b1).lastFault) = some (some .testInconclusive)
      ∧ d.switch .b1 = some .closed ∧ after (.testDischargeIntervalExpiry .a 1099) d (fun t => (t.bu .b1).st) = some .queued := by
  decide

/-- An ADMIT entry seeking 1,200 with minimum 700. -/
def asks (b : Berth) : AdmEntry := { berth := b, kind := .admission, sought := 1200, minimum := 700, join := 1, passOver := 0 }

/-- A scan of every entry on the queue and margins as they stand. -/
def scanning (s : State) : State :=
  s.mapBudget fun f => { f with scans := [{ upto := 4294967295, headroom := s.terminalHeadroom, margin := s.terminalMargin }] }

/-- A berth in QUEUED that seeks 1,200 at a class, and its entry. -/
def waiting (b : Berth) (c : SClass) (s : State) : State :=
  (s.mapBu b fun u => { u with st := .queued, sclass := some c, fullEff := some 1200, minEff := some 700 }).mapBudget fun f =>
    { f with queue := f.queue ++ [asks b] }

/-- What the statement asks of a scan's start holds of these. -/
theorem scanning_start (s : State) (k : ScanStart) (h : (scanning s).budget.scans = [k]) :
    (scanning s).terminalHeadroom ≤ k.headroom ∧ (scanning s).terminalMargin ≤ k.margin ∧ (asks .b1).join ≤ k.upto := by
  obtain rfl : { upto := 4294967295, headroom := s.terminalHeadroom, margin := s.terminalMargin } = k := by
    simpa [scanning, State.mapBudget] using h
  exact ⟨Int.le_refl _, Int.le_refl _, by simp [asks]⟩

/-- One entry, at F50 and at F60, granted the 1,200 it seeks. -/
theorem test_witness_ScanServesOneEntry :
    let s := scanning (waiting .b1 .f50 .reset)
    let c := scanning (waiting .b1 .f60 .reset)
    s.powered = true ∧ s.scansHeld = false ∧ s.budget.queue = [asks .b1] ∧ (s.bu .b1).sclass = some .f50
      ∧ (s.bu .b1).fullEff = some (asks .b1).sought ∧ 0 < s.set.eff ∧ s.set.eff ≤ 100 ∧ (s.bu .b1).st ≠ .adopted
      ∧ s.budget.seqCounter < 4294967295 ∧ after .admissionScan s (fun t => (t.bu .b1).grant) = some 1200
      ∧ (c.bu .b1).sclass = some .f60 ∧ c.bank.counted ≠ 0
      ∧ after .admissionScan c (fun t => (t.bu .b1).grant) = some 1200 ∧ State.reset.budget.queue = []
      ∧ State.reset.scansHeld = false ∧ window.scansHeld = true := by decide

/-- Two entries, of which the first, at a minimum above the headroom, is passed over. -/
theorem test_witness_ScanServesOneEntry_passes :
    let s := scanning (((waiting .b2 .f50 (waiting .b1 .f50 .reset)).mapBudget fun f => { f with working := 1000 }).mapBudget fun f =>
      { f with queue := [{ asks .b1 with minimum := 1200 }, asks .b2] })
    (s.bu .b1).sclass = some .f50 ∧ (s.bu .b2).sclass = some .f50 ∧ Berth.b1 ≠ .b2 ∧ (s.bu .b2).st ≠ .adopted
      ∧ ¬ (((1200 : Nat) : Int) ≤ min (s.headroom .b1 / 10 * 10) 1200 ∧ 10 ≤ min (s.headroom .b1 / 10 * 10) 1200)
      ∧ after .admissionScan s (fun t => ((t.bu .b2).grant, t.budget.queue.head?.map AdmEntry.passOver)) = some (800, some 1) := by
  decide

/-- A TOPUP entry of a berth granted 400 of its full′ of 1,200. -/
theorem test_witness_ScanServesOneEntry_topup :
    let s := scanning ((linked (live (berth (.onShore .supplied) fun u =>
      { u with sclass := some .f50, grant := 400, draw := 400, fullEff := some 1200 }))).mapBudget fun f =>
        { f with queue := [{ asks .b1 with kind := .topup, sought := 800, minimum := 10 }] })
    let c := s.mapBu .b1 fun u => { u with sclass := some .f60, draw := 430 }
    s.scansHeld = false ∧ (s.bu .b1).sclass = some .f50
      ∧ after .admissionScan s (fun t => ((t.bu .b1).grant, t.budget.queue)) = some (1200, [])
      ∧ (c.bu .b1).sclass = some .f60 ∧ c.bank.suspended = false
      ∧ after .admissionScan c (fun t => ((t.bu .b1).grant, (t.bu .b1).draw, t.budget.queue)) = some (1200, 1270, [])
      ∧ after .admissionScan (c.mapBank fun k => { k with suspended := true }) (fun t => (t.bu .b1).grant) = some 400 := by decide

theorem test_witness_ModuleEventsByState (st : MState) :
    let s := State.reset.mapModule .m1 fun r => { r with st := st, restartLimit := some 30000, proofLimit := some 40000 }
    s.powered = true ∧ (¬ Module.m1 ∈ s.bank.proofList) ∧ (s.bank.modules.get .m1).st = st
      ∧ (s.bank.modules.get .m1).restartLimit = some 30000 ∧ (s.bank.modules.get .m1).proofLimit = some 40000 :=
  ⟨rfl, List.not_mem_nil, rfl, rfl, rfl⟩

/-- A counted module's restart fails with an ON_SHORE berth at F60 on the whole capacity, and with one within that left. -/
theorem test_witness_ModuleEventsByState_shed :
    let s := (linked (live (berth (.onShore .supplied) fun u =>
      { u with sclass := some .f60, grant := 2000, draw := 2110, minEff := some 1900 }))).mapModule .m1 fun r =>
        { r with st := .restarting .inService }
    s.bank.counted = countedOf s.bank.modules ∧ (s.bu .b1).grant ≠ 0 ∧ (s.bu .b1).minEff.getD 0 ≠ 0 ∧ PermitApart s
      ∧ s.transfer.line = [] ∧ after (.restartFail .m1) s (fun t => ((t.bu .b1).grant, (t.bu .b1).shed, t.bank.counted)) = some (0, true, 7)
      ∧ (s.mapBu .b1 fun u => { u with grant := 1000 }).sum60 ≤ 250 * 7 := by
  exact ⟨by decide, by decide, by decide, permitApart_of_free _ rfl rfl, rfl, by decide, by decide⟩

/-- M1 passes its test while B1 waits at F60 for 200 kVA: granted within the event; one that asks for too much waits on. -/
theorem test_witness_ModuleEventsByState_grants :
    let e : AdmEntry := { berth := .b1, kind := .admission, sought := 200, minimum := 100, join := 1, passOver := 0 }
    let s (e : AdmEntry) := ((berth .queued fun u =>
        { u with sclass := some .f60, fullEff := some e.sought, minEff := some e.minimum }).mapBudget fun f =>
        { f with queue := [e], joinCounter := 1 }).mapBank fun k =>
        { k with modules := PerModule.set (.const (.withdrawn .retired)) .m1 (.withdrawn (.proofing 5)), counted := 0, suspended := true }
    (s e).bank.counted = countedOf (s e).bank.modules ∧ (s e).scansHeld = false ∧ e.join ≤ (s e).budget.joinCounter
      ∧ (s e).budget.seqCounter + 12 < 4294967295 ∧ (¬ Module.m1 ∈ (s e).bank.proofList)
      ∧ after (.proofPass .m1) (s e) (fun t => ((t.bu .b1).grant, (t.bu .b1).seq)) = some (100, some 1)
      ∧ after (.proofPass .m1) (s { e with sought := 600, minimum := 300 }) (fun t => (t.bu .b1).st) = some .queued := by decide

/-- The bank's timers with demand and without, with a module waiting for proof and without. -/
theorem test_witness_BankTimersExpire :
    let s := State.reset.mapBank fun k => { k with settle := some 20000, idleStop := some 600000 }
    s.powered = true ∧ s.bank.settle = some 20000 ∧ s.bank.idleStop = some 600000 ∧ s.bank.demand = 0
      ∧ (s.mapBank fun k => { k with demand := 1 }).bank.demand ≠ 0 ∧ s.bank.proofing = false ∧ s.bank.proofList = []
      ∧ (s.mapBank fun k => { k with proofList := [.m1] }).bank.proofList ≠ [] := by decide

end Sys2Proof.Tests
end

section
/-! SUPPORT. UNBLOCK (R40): the taking of an order by its reply, the acts of a berth that stay at that berth, and the entry to VACANT. -/

namespace Sys2Proof.Machine

/-! ## What a reply that has been formed meets -/

/-- A reply that is sent or waits goes on so when the transmitter starts its next frame (R199). -/
theorem Replied.kick {s t : State} {tag : Byte} {i : Bool} {r : Reply} (h : Replied s tag i r) {p : SupervisoryPort}
    (hr : p.replies = s.port.replies) (hs : p.sending = s.port.sending) (ht : t.port = p.kick) : Replied t tag i r := by
  rw [Replied, ← hr, ← hs] at h
  rw [Replied, ht]
  rcases h with h | h
  · exact p.kick_reply _ h
  · exact .inr (by simp [SupervisoryPort.kick, h])

/-- No post takes a reply from the transmitter (R199, R200). -/
theorem Replied.post {s : State} {tag : Byte} {i : Bool} {r : Reply} (h : Replied s tag i r) (n : Notice) :
    Replied (s.post n) tag i r := by
  rcases s.port.enqueue_cases n with ⟨_, e⟩ | ⟨_, e⟩ <;> exact h.kick (by rw [e]) (by rw [e]) rfl

theorem Replied.foldl_post {tag : Byte} {i : Bool} {r : Reply} :
    ∀ (ns : List Notice) {s : State}, Replied s tag i r → Replied (ns.foldl State.post s) tag i r
  | [], _, h => h
  | n :: ns, _, h => Replied.foldl_post ns (h.post n)

/-- What an event owes at its end takes no reply from the transmitter. -/
theorem Replied.endEvent {s : State} {tag : Byte} {i : Bool} {r : Reply} (h : Replied s tag i r) (before : State) :
    Replied (s.endEvent before) tag i r := Replied.foldl_post _ h

/-! ## The end of an event -/

/-- An event that leaves the budget as it was starts no scan at its end (R92). -/
theorem State.endEvent_budget (s before : State) (h : s.budget = before.budget) : (s.endEvent before).budget = s.budget := by
  rw [State.endEvent_eq]
  simp [State.startWanted, State.mapBudget, ← h]

theorem OnlyPort.endEvent {s t : State} (h : OnlyPort s t) : OnlyPort s (t.endEvent s) := by
  have hb : (t.endEvent s).budget = t.budget := t.endEvent_budget s (by rw [h])
  calc t.endEvent s
      = { t with port := (t.endEvent s).port, budget := (t.endEvent s).budget } := by rw [State.endEvent_eq]
    _ = { s with port := (t.endEvent s).port } := by rw [hb, h]

/-- An event that leaves a resume round as far as it found it closes no round (R187). -/
theorem State.eventClosing_of_roundOver (s : State) (f : State → State) (hp : s.powered = true)
    (h : (f s).roundOver = s.roundOver) : s.eventClosing f = (f s).endEvent s := by
  rw [State.eventClosing, State.event_powered _ _ hp]
  cases hs : s.roundOver
  · rw [if_neg (by simp), (f s).closeRound_rests s ((rests_iff _).2 (h.trans hs))]
  · rw [if_pos rfl]

/-! ## Taking an order by its reply -/

/-- The order is marked taken and its reply formed, before any effect (R195 to R197). -/
def State.answer (s : State) (o : Slot) (r : Reply) : State :=
  (s.mapPort fun p => { p with slots := markTaken p.slots }.prepareStep o.kind).formReply
    { tag := o.tag, immediate := false, reply := r }

theorem State.answer_onlyPort (s : State) (o : Slot) (r : Reply) : OnlyPort s (s.answer o r) := rfl

theorem State.answer_replied (s : State) (o : Slot) (r : Reply) : Replied (s.answer o r) o.tag false r :=
  State.formReply_replied _ _ _ _

theorem State.answer_bu (s : State) (o : Slot) (r : Reply) (b : Berth) : (s.answer o r).bu b = s.bu b := rfl

theorem State.answer_roundOver (s : State) (o : Slot) (r : Reply) : (s.answer o r).roundOver = s.roundOver :=
  State.roundOver_congr rfl rfl

/-- The replies formed before an order's answer go on. -/
theorem State.answer_keeps {s : State} {tag : Byte} {i : Bool} {q : Reply} (h : Replied s tag i q) (o : Slot) (r : Reply) :
    Replied (s.answer o r) tag i q := by
  rcases h with h | h
  · exact SupervisoryPort.kick_reply _ _ (List.mem_append_left _ h)
  · exact .inr (by simp [State.answer, State.formReply, SupervisoryPort.kick, SupervisoryPort.prepareStep, h])

section
variable {s : State} {o : Slot} {k : OrderKind} {taken : State → Berth → Bool} {f : State → Berth → State}

/-- All an order on a berth can do where PREPARE need not precede it (R197): NO_SUCH, STATE, or OK and its effect at the berth. The
test of the state is one that does not look at the port. -/
theorem State.takeOrder_berth (ht : Takes s o) (hk : o.kind = k) (hn : k.needsPrepare = false)
    (hport : ∀ b p, taken (s.mapPort p) b = taken s b) :
    (berthOperand o.body = none
        ∧ s.takeOrder k anyBody (berthReply k taken) (atBerth f) = s.answer o (.refused (orderCode k) .noSuch))
      ∨ (∃ b, berthOperand o.body = some b ∧ taken s b = false
        ∧ s.takeOrder k anyBody (berthReply k taken) (atBerth f) = s.answer o (.refused (orderCode k) .state))
      ∨ (∃ b, berthOperand o.body = some b ∧ taken s b = true
        ∧ s.takeOrder k anyBody (berthReply k taken) (atBerth f) = f (s.answer o (.ok (orderCode k) .none)) b) := by
  obtain ⟨_, hstart, hold⟩ := ht
  subst hk
  cases hb : berthOperand o.body with
  | none => exact .inl ⟨rfl, by simp [takeOrder, hold, hstart, anyBody, hn, berthReply, hb, State.answer]⟩
  | some b =>
    cases hs : taken s b
    · exact .inr (.inl ⟨b, rfl, hs, by simp [takeOrder, hold, hstart, anyBody, hn, berthReply, hb, hport, hs, State.answer]⟩)
    · exact .inr (.inr ⟨b, rfl, hs, by
        simp [takeOrder, hold, hstart, anyBody, hn, berthReply, atBerth, hb, hport, hs, State.answer]⟩)

end

/-- An order that is answered without effect leaves a reply at the port and changes nothing else (R197). -/
theorem orderEvent_answer {s : State} {o : Slot} {k : OrderKind} {mine : List Byte → Bool} {reply : State → List Byte → Reply}
    {effect : List Byte → State → State} {r : Reply} (ht : Takes s o) (h : s.takeOrder k mine reply effect = s.answer o r) :
    Goes (orderEvent k mine reply effect s) fun t => OnlyPort s t ∧ Replied t o.tag false r := by
  refine ⟨_, rfl, ?_⟩
  rw [State.eventClosing_of_roundOver _ _ ht.1 (by simp only [h]; rfl), h]
  exact ⟨(s.answer_onlyPort o r).endEvent, (s.answer_replied o r).endEvent s⟩

/-! ## Acts that stay at one berth -/

/-- What an act of the Berth Sequence leaves that stays at one berth: the parts no shared operation changes, the other berths with their
channels, the tests, the budget, the mark of the resume round, the replies formed, and the berth's last fault cause. -/
structure ActsAt (b : Berth) (s t : State) : Prop where
  outside : t.outside = s.outside
  others : ∀ c : Berth, c ≠ b → t.bu c = s.bu c ∧ t.ch c = s.ch c
  tests : t.tests = s.tests
  budget : t.budget = s.budget
  round : t.transfer.resumeRound = s.transfer.resumeRound
  replied : ∀ {tag : Byte} {i : Bool} {r : Reply}, Replied s tag i r → Replied t tag i r
  lastFault : (t.bu b).lastFault = (s.bu b).lastFault

namespace ActsAt

variable {b : Berth} {s t u : State}

theorem refl (b : Berth) (s : State) : ActsAt b s s := ⟨rfl, fun _ _ => ⟨rfl, rfl⟩, rfl, rfl, rfl, id, rfl⟩

theorem trans (h : ActsAt b s t) (k : ActsAt b t u) : ActsAt b s u where
  outside := k.outside.trans h.outside
  others c hc := ⟨(k.others c hc).1.trans (h.others c hc).1, (k.others c hc).2.trans (h.others c hc).2⟩
  tests := k.tests.trans h.tests
  budget := k.budget.trans h.budget
  round := k.round.trans h.round
  replied hr := k.replied (h.replied hr)
  lastFault := k.lastFault.trans h.lastFault

theorem mapBu (s : State) (b : Berth) (f : BerthUnit → BerthUnit) (hf : (f (s.bu b)).lastFault = (s.bu b).lastFault) :
    ActsAt b s (s.mapBu b f) :=
  ⟨rfl, fun c hc => ⟨s.mapBu_bu_other b c f hc, rfl⟩, rfl, rfl, rfl, id, by simpa using hf⟩

theorem mapCh (s : State) (b : Berth) (f : Channel → Channel) : ActsAt b s (s.mapCh b f) :=
  ⟨rfl, fun c hc => ⟨rfl, s.mapCh_ch_other b c f hc⟩, rfl, rfl, rfl, id, rfl⟩

theorem post (s : State) (b : Berth) (n : Notice) : ActsAt b s (s.post n) :=
  ⟨rfl, fun _ _ => ⟨rfl, rfl⟩, rfl, rfl, rfl, fun h => h.post n, rfl⟩

theorem mapTransfer (s : State) (b : Berth) (f : TransferUnit → TransferUnit)
    (hf : (f s.transfer).resumeRound = s.transfer.resumeRound) : ActsAt b s (s.mapTransfer f) :=
  ⟨rfl, fun _ _ => ⟨rfl, rfl⟩, rfl, rfl, hf, id, rfl⟩

theorem mapPb (s : State) (b : Berth) (f : ProtBerth → ProtBerth) : ActsAt b s (s.mapPb b f) :=
  ⟨rfl, fun _ _ => ⟨rfl, rfl⟩, rfl, rfl, rfl, id, rfl⟩

theorem takeState (s : State) (b : Berth) (st : BState) : ActsAt b s (s.takeState b st) := by
  unfold State.takeState
  exact (((mapBu s b _ rfl).trans (mapCh _ b _)).trans (mapTransfer _ b _ rfl)).trans (mapPb _ b _)

theorem setState (s : State) (b : Berth) (st : BState) : ActsAt b s (s.setState b st) := by
  rcases s.setState_cases b st with ⟨_, e⟩ | ⟨_, e⟩ <;> rw [e]
  · exact refl b s
  · exact (takeState s b st).trans (post _ b _)

/-- An order's answer is at the port, so it stays at any berth. -/
theorem answer (s : State) (b : Berth) (o : Slot) (r : Reply) : ActsAt b s (s.answer o r) :=
  ⟨rfl, fun _ _ => ⟨rfl, rfl⟩, rfl, rfl, rfl, fun h => State.answer_keeps h o r, rfl⟩

/-- A plug is detected after the act where it was before it (R4). -/
theorem present (h : ActsAt b s t) (c : Berth) : t.present c = s.present c := by
  obtain ⟨-, -, hl, -, -, hs, -⟩ := State.outside_fields h.outside
  simp only [State.present, State.bset, State.set, State.ln, hl, hs]

theorem lines (h : ActsAt b s t) : t.lines = s.lines := by
  obtain ⟨-, -, hl, -⟩ := State.outside_fields h.outside
  exact hl

end ActsAt

/-! ## Entry to VACANT -/

/-- A berth written back as it stands is no change. -/
theorem State.mapBu_self (s : State) (b : Berth) : s = s.mapBu b fun _ => s.bu b := by simp [State.mapBu, State.bu]

theorem State.mapBu_mapBu (s : State) (b : Berth) (f g : BerthUnit → BerthUnit) :
    (s.mapBu b f).mapBu b g = s.mapBu b fun u => g (f u) := by simp [State.mapBu, State.bu]

/-- The start of the earthing procedure writes nothing but the procedure, its switch command and the timers of its berth (R7). -/
theorem State.startEarthing_mapBu (s : State) (b : Berth) :
    ∃ e c ts, s.startEarthing b = s.mapBu b fun u => { u with earthing := e, switchCmd := c, timers := ts } := by
  rcases s.startEarthing_cases b with ⟨_, h⟩ | ⟨_, _, h⟩ | ⟨_, _, h⟩ <;> rw [h]
  · exact ⟨_, _, _, rfl⟩
  · exact ⟨(s.bu b).earthing, (s.bu b).switchCmd, (s.bu b).timers, s.mapBu_self b⟩
  · unfold State.checkEarthing
    split
    · exact ⟨.discharging, (s.bu b).switchCmd, _, (State.mapBu_mapBu _ b _ _).trans rfl⟩
    · exact ⟨.waiting, (s.bu b).switchCmd, (s.bu b).timers, rfl⟩

theorem ActsAt.startEarthing (s : State) (b : Berth) : ActsAt b s (s.startEarthing b) := by
  obtain ⟨e, c, ts, h⟩ := s.startEarthing_mapBu b
  exact h ▸ ActsAt.mapBu s b _ rfl

theorem ActsAt.leaveVacant (s : State) (b : Berth) : ActsAt b s (s.leaveVacant b) := by
  unfold State.leaveVacant State.beginQuiet
  split
  · exact ((ActsAt.mapBu s b _ rfl).trans (ActsAt.setState _ b _)).trans (ActsAt.mapBu _ b _ rfl)
  · exact ActsAt.refl b s

/-- The berth in VACANT before presence is looked at (R49, R9). -/
def State.toVacant (s : State) (b : Berth) : State := ((s.setState b .vacant).mapCh b Channel.restart).startEarthing b

theorem State.enterVacant_eq (s : State) (b : Berth) : s.enterVacant b = (s.toVacant b).leaveVacant b := rfl

theorem ActsAt.toVacant (s : State) (b : Berth) : ActsAt b s (s.toVacant b) :=
  ((ActsAt.setState s b .vacant).trans (ActsAt.mapCh _ b _)).trans (ActsAt.startEarthing _ b)

theorem ActsAt.enterVacant (s : State) (b : Berth) : ActsAt b s (s.enterVacant b) :=
  (ActsAt.toVacant s b).trans (ActsAt.leaveVacant _ b)

/-- A change of state keeps the plug latch (R5). -/
theorem State.setState_latch (s : State) (b : Berth) (st : BState) :
    ((s.setState b st).bu b).attachSeen = (s.bu b).attachSeen ∧ ((s.setState b st).bu b).detachSeen = (s.bu b).detachSeen := by
  rcases s.setState_cases b st with ⟨_, e⟩ | ⟨_, e⟩ <;> rw [e]
  · exact ⟨rfl, rfl⟩
  · simp [State.post, State.takeState_bu_same, BerthUnit.inState]

/-- On its way to VACANT a berth keeps its plug latch (R5). -/
theorem State.toVacant_bu (s : State) (b : Berth) :
    ((s.toVacant b).bu b).st = .vacant ∧ ((s.toVacant b).bu b).attachSeen = (s.bu b).attachSeen
      ∧ ((s.toVacant b).bu b).detachSeen = (s.bu b).detachSeen := by
  obtain ⟨e, c, ts, h⟩ := ((s.setState b .vacant).mapCh b Channel.restart).startEarthing_mapBu b
  rw [State.toVacant, h]
  simpa using s.setState_latch b .vacant

/-- Entry to VACANT ends in VACANT, and in PROBE QUIET where presence is detected (R9). -/
theorem State.enterVacant_st (s : State) (b : Berth) :
    ((s.enterVacant b).bu b).st = if s.present b then .probe .quiet else .vacant := by
  rw [State.enterVacant_eq, State.leaveVacant, (ActsAt.toVacant s b).present b]
  split
  · simp [State.beginQuiet]
  · exact (s.toVacant_bu b).1

/-- A berth that stays in VACANT keeps its plug latch (R5, R9). -/
theorem State.enterVacant_latch (s : State) (b : Berth) (h : s.present b = false) :
    ((s.enterVacant b).bu b).attachSeen = (s.bu b).attachSeen ∧ ((s.enterVacant b).bu b).detachSeen = (s.bu b).detachSeen := by
  rw [State.enterVacant_eq, State.leaveVacant, (ActsAt.toVacant s b).present b, h]
  exact (s.toVacant_bu b).2

/-- Entry to VACANT from BLOCKED leaves the resume round as far as it was: neither state waits for a resume answer (R187). -/
theorem State.enterVacant_roundOver (s : State) (b : Berth) (h : (s.bu b).st = .blocked) :
    (s.enterVacant b).roundOver = s.roundOver := by
  have hu : (s.enterVacant b).unanswered = s.unanswered := by
    funext c
    by_cases hc : c = b
    · subst hc
      rw [State.unanswered, State.unanswered, State.enterVacant_st, h]
      split <;> rfl
    · rw [State.unanswered, State.unanswered, ((ActsAt.enterVacant s b).others c hc).1]
  rw [State.roundOver, State.roundOver, hu, (ActsAt.enterVacant s b).round]

/-- Settles O24: an order that is refused leaves its reply at the port alone, and one that is taken is the entry to VACANT. -/
theorem unblockLeadsToVacant : Obligations.UnblockLeadsToVacant := by
  intro s o ht hk
  rcases State.takeOrder_berth (taken := fun s b => (s.bu b).st == .blocked) (f := State.enterVacant) ht hk rfl (fun _ _ => rfl)
    with ⟨hb, h⟩ | ⟨b, hb, hs, h⟩ | ⟨b, hb, hs, h⟩ <;> rw [hb]
  · exact orderEvent_answer ht h
  · simp only [if_neg (beq_eq_false_iff_ne.1 hs)]
    exact orderEvent_answer ht h
  · have hst : (s.bu b).st = .blocked := beq_iff_eq.1 hs
    have ans := ActsAt.answer s b o (.ok (orderCode .unblock) .none)
    have hreply := s.answer_replied o (.ok (orderCode .unblock) .none)
    have hbu := s.answer_bu o (.ok (orderCode .unblock) .none) b
    have hround := s.answer_roundOver o (.ok (orderCode .unblock) .none)
    generalize s.answer o (.ok (orderCode .unblock) .none) = u at h ans hreply hbu hround
    have enter := ActsAt.enterVacant u b
    have act := ans.trans enter
    simp only [if_pos hst]
    refine ⟨_, rfl, ?_⟩
    rw [State.eventClosing_of_roundOver _ _ ht.1 (by rw [h, u.enterVacant_roundOver b (hbu ▸ hst), hround]), h]
    simp only [State.endEvent_bu, State.endEvent_ch, State.endEvent_tests, State.endEvent_lines,
      State.endEvent_budget _ s act.budget]
    exact ⟨by rw [u.enterVacant_st, ans.present], act.lastFault, act.tests, (enter.replied hreply).endEvent s,
      by rw [← ans.present, ← hbu]; exact u.enterVacant_latch b, act.others, act.lines, act.budget⟩

end Sys2Proof.Machine
end

section
/-! SUPPORT. The draw of a grant (R86): at F60 a quotient rounded up, in the adjunction that makes it the least. -/

namespace Sys2Proof.Machine

/-- The F60 draw counts the tens of 10 × grant / eff, rounded up. -/
theorem drawOf_f60_eq_ceilDiv (eff g : Nat) : drawOf .f60 eff g = 10 * (10 * g ⌈/⌉ eff) := rfl

theorem ten_dvd_drawOf_f60 (eff g : Nat) : 10 ∣ drawOf .f60 eff g := Dvd.intro _ rfl

/-- Which multiples of 10 an F60 draw does not exceed: those whose product with eff reaches 100 times the grant (R86). -/
theorem drawOf_f60_le_iff {eff g d : Nat} (heff : 0 < eff) (hd : 10 ∣ d) : drawOf .f60 eff g ≤ d ↔ 100 * g ≤ d * eff := by
  obtain ⟨k, rfl⟩ := hd
  calc drawOf .f60 eff g ≤ 10 * k
      ↔ 10 * g ⌈/⌉ eff ≤ k := by rw [drawOf_f60_eq_ceilDiv, Nat.mul_le_mul_left_iff (by decide)]
    _ ↔ 10 * g ≤ eff * k := ceilDiv_le_iff_le_mul heff
    _ ↔ 100 * g ≤ 10 * k * eff := by rw [mul_assoc, mul_comm k eff]; omega

/-- A grant of 0 draws nothing, whatever eff is. -/
@[simp] theorem drawOf_zero (c : SClass) (eff : Nat) : drawOf c eff 0 = 0 := by
  cases c with
  | f50 => rfl
  | f60 => simp only [drawOf_f60_eq_ceilDiv, mul_zero, zero_ceilDiv]

/-- Settles O14: at F60 the draw meets the bound itself and is not above any other multiple of 10 that does, both by `drawOf_f60_le_iff`. -/
theorem drawOfGrant : Obligations.DrawOfGrant := by
  refine ⟨fun _ _ => rfl, fun eff g heff => ?_, drawOf_zero, fun s b g q => ?_⟩
  · exact ⟨ten_dvd_drawOf_f60 eff g, (drawOf_f60_le_iff heff (ten_dvd_drawOf_f60 eff g)).1 le_rfl,
      fun d hd h => (drawOf_f60_le_iff heff hd).2 h⟩
  · rw [State.writeGrant_bu_same]
    exact ⟨rfl, rfl, rfl⟩

end Sys2Proof.Machine
end
